-- ==== Sys2Proof/Word.lean ====
section
/-! DEFINITION. The value types of spec/00_scope.md R10: bytes, nibbles, `uint16`, byte strings, cipher blocks, and the two
fixed-length operands (a hardware address, five bytes in a row). -/

namespace Sys2Proof

/-- A *byte*, an unsigned integer in [0, 255] (R10). -/
abbrev Byte := BitVec 8

/-- A *nibble*, an unsigned integer in [0, 15] (R10): the width of a facelet register (R22). -/
abbrev Nibble := BitVec 4

/-- A `uint16` (R10): the width of `crc_reg` (R28). -/
abbrev Word16 := BitVec 16

/-- `Bytes`: a finite sequence of bytes, index 0 first (R10). -/
abbrev Bytes := List Byte

/-- A cipher block, or the key: 16 bytes in buffer order, never read as an integer (R58). -/
abbrev Block := Vector Byte 16

/-- The six octets of a hardware address in the order they are written, `a0:a1:a2:a3:a4:a5` (R56, R172). -/
structure Addr where
  a0 : Byte
  a1 : Byte
  a2 : Byte
  a3 : Byte
  a4 : Byte
  a5 : Byte
deriving DecidableEq, Repr

/-- Five bytes in a row: an ack head `P[2:7)` (R140) or `SYNC_HDR` (R8). -/
structure FiveBytes where
  h0 : Byte
  h1 : Byte
  h2 : Byte
  h3 : Byte
  h4 : Byte
deriving DecidableEq, Repr

end Sys2Proof
end

