-- ==== Sys2Proof/Config.lean ====
section
/-! DEFINITION. The open parameters of spec/00_scope.md R8: the configuration record (R37) and the cipher (R110, R111). -/

namespace Sys2Proof

/-- The configuration record of R37 without the cipher. It is constant: no operation writes it (R68). -/
structure Config where
  /-- `KEY`, 16 bytes (R8, R118). -/
  key : Block
  /-- `ACK_PRED` as a table: bit `b` says whether the byte `b` means "acknowledge". Bit 0 is never consulted, because R8
  fixes `ACK_PRED(0x00) = false`; see `Machine.ackPred`. -/
  ackTrue : BitVec 256
  /-- `VERIFY_RX_CRC` (R8, R128, R129). -/
  verifyRxCrc : Bool
  /-- `HAS_SYNC` (R8, R190). -/
  hasSync : Bool
  /-- `SYNC_HDR`, five bytes (R8, R78). -/
  syncHdr : FiveBytes
deriving DecidableEq, Repr

/-- `CIPHER = (E, D)` of R110: for each key a permutation of the 16-byte blocks, `E k` itself and `D k` its inverse. The
pairs of total functions with `D(k, E(k, b)) = b` are exactly these families, since R111 derives from that law and the
finiteness of the blocks that `E k` is a bijection with inverse `D k`. DEDUCED (log 4). -/
abbrev Cipher := Block → Equiv.Perm Block

/-- The device's cipher: no source names it (R110), so it is a FREE VALUE, the same for the life of the system (R118). -/
opaque Config.cipher : Cipher

/-- The device's key: no source gives its bytes (R110), so it is a FREE VALUE. -/
opaque Config.deviceKey : Block

end Sys2Proof
end

