-- ==== Sys2Proof/Machine/Operands.lean ====
section
/-! DEFINITION. The layout constants of spec/00_scope.md R7, the helpers of R10, and how each operand is assembled from
bytes (spec/30_encoding.md R79). -/

namespace Sys2Proof.Machine

/-- `MARKER`, byte 0 of every frame (R7). -/
def marker : Byte := 0xFE

/-- `OP_HELLO` (R7). -/
def opHello : Byte := 0x02

/-- `OP_MOVE` (R7). -/
def opMove : Byte := 0x03

/-- `OP_SYNC` (R7). -/
def opSync : Byte := 0x04

/-- `ACK_LEN`, the length byte of an acknowledgment (R7). -/
def ackLen : Byte := 9

/-- `BLOCK`, the cipher block size and padding quantum (R7). -/
def blockSize : Nat := 16

/-- `OFF_MARKER` (R7). -/
def offMarker : Nat := 0

/-- `OFF_LEN` (R7). -/
def offLen : Nat := 1

/-- `OFF_OPCODE` (R7). -/
def offOpcode : Nat := 2

/-- `OFF_ACKHEAD`; five bytes (R7). -/
def offAckHead : Nat := 2

/-- `OFF_FACELETS`; 27 bytes (R7). -/
def offFacelets : Nat := 7

/-- `OFF_MOVE` (R7). -/
def offMove : Nat := 34

/-- `OFF_BATT` (R7). -/
def offBatt : Nat := 35

/-- `OFF_ACKFLAG` (R7). -/
def offAckFlag : Nat := 91

/-- The number of bytes of an ack head (R7, R140). -/
def ackHeadLen : Nat := 5

/-- The number of bytes of the packed facelets (R7, R55). -/
def packedLen : Nat := 27

/-- `NFACELETS` (R7). -/
def nFacelets : Nat := 54

/-- `IDENT_LEN`, the length of the identification payload (R7). -/
def identLen : Nat := 19

/-- `IDENT_ADDR_OFF`; six bytes (R7). -/
def identAddrOff : Nat := 11

/-- `zeros(n)` (R10). -/
def zeros (n : Nat) : Bytes := List.replicate n 0

/-- `ceil16(n)`, the least multiple of 16 that is at least `n` (R10). -/
def ceil16 (n : Nat) : Nat := blockSize * ((n + 15) / blockSize)

/-- `lo8(v) = v[7:0]` (R10). -/
def lo8 (v : Word16) : Byte := v.extractLsb' 0 8

/-- `hi8(v) = v[15:8]` (R10). -/
def hi8 (v : Word16) : Byte := v.extractLsb' 8 8

/-- `b[3:0]`, the nibble emitted first (R10, R55). -/
def loNibble (b : Byte) : Nibble := b.extractLsb' 0 4

/-- `b[7:4]`, the nibble emitted second (R10, R55). -/
def hiNibble (b : Byte) : Nibble := b.extractLsb' 4 4

/-- A byte from its low and high nibble: `lo | (hi << 4)` (R152). -/
def byteOfNibbles (lo hi : Nibble) : Byte := lo.setWidth 8 ||| (hi.setWidth 8 <<< 4)

/-- A length as one byte; used for lengths up to 255 (R71, R79). -/
def lenByte (n : Nat) : Byte := BitVec.ofNat 8 n

/-- The two bytes of a CRC value as they stand in a frame, low byte first (R54, R104). -/
def crcBytes (c : Word16) : Bytes := [lo8 c, hi8 c]

/-- The five bytes in index order. -/
def fiveBytes (h : FiveBytes) : Bytes := [h.h0, h.h1, h.h2, h.h3, h.h4]

/-- The address as the identification payload stores it, last octet first (R56, R79). -/
def reversedAddr (a : Addr) : Bytes := [a.a5, a.a4, a.a3, a.a2, a.a1, a.a0]

/-- `ACK_PRED` (R8, R182): false on `0x00`, the configured table elsewhere. -/
def ackPred (cfg : Config) (b : Byte) : Bool := b != 0 && cfg.ackTrue.getLsbD b.toNat

/-- The 16 bytes of a block as a byte string, in buffer order (R58). -/
def blockBytes (b : Block) : Bytes := b.toArray.toList

/-- The first 16 bytes of a byte string as a block; with fewer than 16, zeros follow them. -/
def blockOf (s : Bytes) : Block := ⟨((s ++ zeros 16).take 16).toArray, by simp [zeros]⟩

end Sys2Proof.Machine
end

