-- ==== Sys2Proof/Syntax.lean ====
section
/-! DEFINITION. The operations of spec/30_encoding.md R86 (one constructor per row of spec/opcode_table.json), the names of
the errors (R205), and the forms in which an operation stands before the block decodes it (R83, R85). -/

namespace Sys2Proof

/-- The causes of a FormatError (R201, R205). -/
inductive FormatCause where
  | badCipherLength
  | tooShort
deriving DecidableEq, Repr

/-- The causes of a ProtocolError (R202, R205). -/
inductive ProtocolCause where
  | badMarker
  | unknownOpcode
  | badCrc
deriving DecidableEq, Repr

/-- The closed enumeration of R205. `notFoundError` belongs to discovery, outside the block, and no operation raises it (R204). -/
inductive BlockError where
  | formatError (c : FormatCause)
  | protocolError (c : ProtocolCause)
  | transportError
  | notFoundError
deriving DecidableEq, Repr

/-- The operations of R86, a constructor per row of the opcode table, in the table's order. -/
inductive Instr where
  /-- `CRC16` (R102). -/
  | crc16 (s : Bytes)
  /-- `CRC_STEP` (R101). -/
  | crcStep (r : Word16) (b : Byte)
  /-- `ENCRYPT` (R112). -/
  | encrypt (d : Bytes)
  /-- `DECRYPT` (R113, R114). -/
  | decrypt (c : Bytes)
  /-- `BUILD_FRAME` (R122). -/
  | buildFrame (body : Bytes)
  /-- `PARSE_FRAME` (R126). -/
  | parseFrame (c : Bytes)
  /-- `BUILD_ACK` (R141). -/
  | buildAck (p : Bytes)
  /-- `UNPACK` (R150). -/
  | unpack (s : Bytes)
  /-- `PACK` (R152). -/
  | pack (q : List Nibble)
  /-- `IS_SOLVED` (R154). -/
  | isSolved (q : List Nibble)
  /-- `TO_NOTATION` (R158). -/
  | toNotation (q : List Nibble)
  /-- `MOVE_LABEL` (R160). -/
  | moveLabel (m : Byte)
  /-- `HELLO`, an inbound plaintext with opcode 0x02 (R73, R178). -/
  | hello (p : Bytes)
  /-- `MOVE`, an inbound plaintext with opcode 0x03 (R74, R180). -/
  | move (p : Bytes)
  /-- `SYNC_ECHO`, an inbound plaintext with opcode 0x04 (R75, R183). -/
  | syncEcho (p : Bytes)
  /-- `IDENT`, the outbound identification frame (R76, R173). -/
  | ident (addr : Addr)
  /-- `ACK`, the outbound acknowledgment frame (R77, R143). -/
  | ack (head : FiveBytes)
  /-- `SYNC_REQ`, the outbound sync request frame (R78, R190). -/
  | syncReq
  /-- `CONNECT` (R172). -/
  | connect (addr : Addr)
  /-- `RX` (R175). -/
  | rx
  /-- `DISPATCH` (R176). -/
  | dispatch (p : Bytes)
  /-- `TX_DONE` (R191). -/
  | txDone
  /-- `REQUEST_SYNC` (R190). -/
  | requestSync
  /-- `TEARDOWN` (R188). -/
  | teardown
  /-- `TRANSPORT_ERROR` (R189). -/
  | transportError
  /-- `DELIVER` (R174). -/
  | deliver (c : Bytes)
deriving DecidableEq, Repr

/-- The `format` column of the opcode table (R83). -/
inductive RowFormat where
  | func
  | rxFrame
  | txFrame
  | cmd
deriving DecidableEq, Repr

/-- The format of an operation's row (R83, R86). -/
def Instr.format : Instr → RowFormat
  | .crc16 _ => .func
  | .crcStep _ _ => .func
  | .encrypt _ => .func
  | .decrypt _ => .func
  | .buildFrame _ => .func
  | .parseFrame _ => .func
  | .buildAck _ => .func
  | .unpack _ => .func
  | .pack _ => .func
  | .isSolved _ => .func
  | .toNotation _ => .func
  | .moveLabel _ => .func
  | .hello _ => .rxFrame
  | .move _ => .rxFrame
  | .syncEcho _ => .rxFrame
  | .ident _ => .txFrame
  | .ack _ => .txFrame
  | .syncReq => .txFrame
  | .connect _ => .cmd
  | .rx => .cmd
  | .dispatch _ => .cmd
  | .txDone => .cmd
  | .requestSync => .cmd
  | .teardown => .cmd
  | .transportError => .cmd
  | .deliver _ => .cmd

/-- Which way a frame's plaintext goes: the same three bytes can be an inbound message and an outbound frame
(`FE 24 04` is both `SYNC_ECHO` and `SYNC_REQ`), and R83 keeps the two apart by the direction (log 12). -/
inductive Direction where
  | inbound
  | outbound
deriving DecidableEq, Repr

/-- One entry of a script, as it is encoded. A CMD row is written as a line of R85; an RXFRAME or TXFRAME row is the
plaintext of its frame (R70); a FUNC row has no encoding in any source (R83) and stands as the call itself. DESIGN CHOICE (log 11). -/
inductive Item where
  | line (text : List Char)
  | frame (dir : Direction) (p : Bytes)
  | call (f : Instr)
deriving DecidableEq, Repr

/-- The row format an item can stand for. -/
def Item.format : Item → RowFormat
  | .line _ => .cmd
  | .frame .inbound _ => .rxFrame
  | .frame .outbound _ => .txFrame
  | .call _ => .func

/-- Why the decoder turns an item away. -/
inductive DecodeError where
  /-- An inbound plaintext that is none of the three messages, with the error of R201 or R202 that names it. The block
  drops such a frame (R206), so this one does not stop a run. -/
  | dropped (e : BlockError)
  /-- A line with nothing but spaces and a comment (R85). It asks for no operation and does not stop a run. -/
  | blankLine
  /-- A line whose first word is none of R85's eight. -/
  | unknownWord
  /-- A line of R85 whose operands are not as R85 writes them. -/
  | badOperand
  /-- Bytes that match no TXFRAME row. -/
  | notOutbound
  /-- A call of an operation that has an encoding of its own and so must be given by it. -/
  | notFunctional
deriving DecidableEq, Repr

end Sys2Proof
end

