-- ==== Sys2Proof/Machine/State.lean ====
section
/-! DEFINITION. The state of the block (spec/10_state.md), the reasons it stops, and the outcome of a computation inside one step. -/

namespace Sys2Proof.Machine

/-- `fsm`, the session state register: exactly three values, no numeric encoding (R26). -/
inductive Fsm where
  | disconnected
  | handshaking
  | streaming
deriving DecidableEq, Repr

/-- A move label, one of the six letters of R24. -/
inductive MoveLabel where
  | U
  | D
  | L
  | R
  | F
  | B
deriving DecidableEq, Repr

/-- An entry of the event port `evt` (R36). -/
inductive Event where
  /-- `STATE_UPDATED(cube, battery)` (R179). -/
  | stateUpdated (cube : List Nibble) (battery : Option Byte)
  /-- `MOVE_RECOGNIZED(label)` (R181). -/
  | moveRecognized (label : MoveLabel)
  /-- `SOLVED_EDGE` (R185). -/
  | solvedEdge
  /-- `ERROR(e)`; the block emits it with `TransportError` only (R36, R189). -/
  | error (e : BlockError)
deriving DecidableEq, Repr

/-- What an operation of R86 with a result answers, on the model's own result port (log 2). -/
inductive FuncResult where
  /-- Nothing has been answered yet. -/
  | none
  /-- A `uint16` (`CRC16`, `CRC_STEP`). -/
  | word (v : Word16)
  /-- A byte string (`ENCRYPT`, `DECRYPT`, `BUILD_FRAME`, `BUILD_ACK`, `PACK`, `IDENT`, `ACK`, `SYNC_REQ`). -/
  | bytes (b : Bytes)
  /-- A plaintext and its opcode byte (`PARSE_FRAME`). -/
  | parsed (p : Bytes) (op : Byte)
  /-- A nibble sequence (`UNPACK`). -/
  | nibbles (q : List Nibble)
  /-- One bit (`IS_SOLVED`). -/
  | flag (b : Bool)
  /-- A string of letters (`TO_NOTATION`). -/
  | letters (cs : List Char)
  /-- A label or none (`MOVE_LABEL`). -/
  | label (l : Option MoveLabel)
  /-- The unit raised an error instead (`DECRYPT`, `PARSE_FRAME`; R114, R126). -/
  | error (e : BlockError)
deriving DecidableEq, Repr

/-- Why a step would stop with a fault. The spec has no such stop ("no crash", R201; "An access outside the buffer never
happens", R62): both constructors say that a primitive of R11 was used outside its domain, and no operation does that. -/
inductive Fault where
  /-- `MemRead(addr, n)` with `addr + n > len(P)` (R11, R51). Raised by `memRead` and `memReadByte` alone. Safe: a stop where R11 defines nothing. -/
  | memRead
  /-- `MemWrite(addr, n, v)` with `addr + n > len(B)` (R11, R52). Raised by `memWrite` alone. Safe: a stop where R11 defines nothing. -/
  | memWrite
deriving DecidableEq, Repr

/-- Why an operation is refused (R208): no change of state and no output. -/
inductive Refusal where
  /-- An instruction whose arm of `exec` has no meaning yet. Raised by no arm of this model. Safe. -/
  | notModelled (mnemonic : String)
  /-- `refuse(AlreadyConnected)`: `CONNECT` while a session is live (R172). Raised by `connect`. Safe: R208 gives it no meaning. -/
  | alreadyConnected
  /-- `refuse(NoSync)`: `REQUEST_SYNC` or `SYNC_REQ` when `HAS_SYNC` is false (R190). Raised by `syncFrame`. Safe. -/
  | noSync
  /-- `refuse(NotConnected)`: `REQUEST_SYNC` in `Disconnected` (R190). Raised by `requestSync`. Safe. -/
  | notConnected
  /-- `refuse(BodyLength)`: a body of fewer than 2 or more than 253 bytes (R121). Raised by `buildFrame`. Safe. -/
  | bodyLength
  /-- `refuse(TooShort)`: `BUILD_ACK` on fewer than 7 bytes (R141). Raised by `buildAck`. Safe. -/
  | tooShort
  /-- `refuse(BadLength)`: `PACK` on other than 54 nibbles (R152). Raised by `pack`. Safe. -/
  | badLength
  /-- `refuse(BadColour)`: `TO_NOTATION` on 54 nibbles of which one is above 5 (R158). Raised by `toNotation`. Safe. -/
  | badColour
  /-- `RX` while `rxq` is empty: R175 enables the step only when it is not. Raised by `rx`. Safe (log 9). -/
  | rxqEmpty
  /-- `TX_DONE` while `txq` is empty: R191 enables the step only when it is not. Raised by `execTxDone`. Safe (log 9). -/
  | txqEmpty
  /-- `HELLO`, `MOVE` or `SYNC_ECHO` handed a frame of another opcode: the preconditions of R178, R180 and R183 exclude it
  and the decoder never yields it. Raised by `message`. Safe (log 13). -/
  | notThisMessage
  /-- A script entry that is no operation, with the decoder's reason. Raised by `fetch`. Safe (log 11). -/
  | undecodable (e : DecodeError)
deriving DecidableEq, Repr

/-- How a computation inside one step ends: with a value, at a `raise` (R206), at a `refuse` (R208), or outside the domain
of a primitive of R11. -/
inductive Res (α : Type) where
  | ok (a : α)
  | raised (e : BlockError)
  | refused (r : Refusal)
  | fault (f : Fault)
deriving DecidableEq, Repr

/-- The state of the block. The comments name the rule of spec/ for each field; working storage (R28 to R32) is not state (R21, R38). -/
structure State where
  /-- The session state register (R26). -/
  fsm : Fsm
  /-- The active CubeState, 0 or 54 nibbles: `cube_valid` and `F[0..53]` (R22). -/
  cube : List Nibble
  /-- The last known battery byte: `battery_valid` and `battery_val` (R23). -/
  battery : Option Byte
  /-- The move log (R24). -/
  moves : List MoveLabel
  /-- The flag of the edge detector (R25). -/
  wasSolved : Bool
  /-- The inbound queue of ciphertexts, oldest first (R33). -/
  rxq : List Bytes
  /-- The outbound queue of ciphertexts, the write in flight first (R35). -/
  txq : List Bytes
  /-- The host event port, first event first (R36). -/
  evt : List Event
  /-- The configuration (R37), read only (log 3). -/
  cfg : Config
  /-- The MODEL's own: the operations still to be taken, next first (R85, log 1). -/
  script : List Item
  /-- The MODEL's own: what the last operation with a result answered (log 2). -/
  out : FuncResult
deriving DecidableEq, Repr

/-- The configuration at reset: the key is free, the rest are the defaults R8 prints, which are the spec's own choice
(DESIGN CHOICE, log 5). -/
def resetConfig : Config :=
  { key := Config.deviceKey
    ackTrue := BitVec.allOnes 256
    verifyRxCrc := false
    hasSync := true
    syncHdr := ⟨0x04, 0x00, 0x00, 0x00, 0x00⟩ }

/-- The state after reset (R40, R230). -/
def State.reset : State :=
  { fsm := .disconnected
    cube := []
    battery := none
    moves := []
    wasSolved := false
    rxq := []
    txq := []
    evt := []
    cfg := resetConfig
    script := []
    out := .none }

end Sys2Proof.Machine
end

