-- ==== Sys2Proof/Machine/Ops.lean ====
section
/-! DEFINITION. The primitives of spec/00_scope.md R11, the named updates of State, taking an error (spec/60_exceptions.md
R206), ending a session (R188, R189), and answering a result. -/

namespace Sys2Proof.Machine

/-! ## Computations inside one step -/

/-- Go on with the value of a computation; a `raise`, a `refuse` or a fault ends it. -/
def Res.bind {α β : Type} (x : Res α) (f : α → Res β) : Res β :=
  match x with
  | .ok a => f a
  | .raised e => .raised e
  | .refused r => .refused r
  | .fault g => .fault g

/-- Apply a function to the value of a computation. -/
def Res.map {α β : Type} (f : α → β) (x : Res α) : Res β := x.bind fun a => .ok (f a)

/-- `raise FormatError(c)` (R11, R201). -/
def raiseFormat {α : Type} (c : FormatCause) : Res α := .raised (.formatError c)

/-- `raise ProtocolError(c)` (R11, R202). -/
def raiseProtocol {α : Type} (c : ProtocolCause) : Res α := .raised (.protocolError c)

/-! ## The buffers -/

/-- `MemRead(addr, n)` of the buffer `P`: `P[addr : addr+n)`, defined only when `addr + n <= len(P)` (R11, R51). -/
def memRead (p : Bytes) (addr n : Nat) : Res Bytes :=
  if addr + n ≤ p.length then .ok ((p.drop addr).take n) else .fault .memRead

/-- `MemRead(addr, 1)[0]` (R11, R51). -/
def memReadByte (p : Bytes) (addr : Nat) : Res Byte :=
  match p[addr]? with
  | some b => .ok b
  | none => .fault .memRead

/-- `MemWrite(addr, len(v), v)` on the buffer `B`, defined only when `addr + len(v) <= len(B)` (R11, R52). -/
def memWrite (b : Bytes) (addr : Nat) (v : Bytes) : Res Bytes :=
  if addr + v.length ≤ b.length then .ok (b.take addr ++ v ++ b.drop (addr + v.length)) else .fault .memWrite

/-! ## Updates of State -/

/-- `fsm <- f` (R11). -/
def State.setFsm (s : State) (f : Fsm) : State := { s with fsm := f }

/-- Write all 54 facelet registers and the valid bit at once (R22). -/
def State.writeCube (s : State) (q : List Nibble) : State := { s with cube := q }

/-- Write `battery_val` and the valid bit (R23). -/
def State.writeBattery (s : State) (b : Byte) : State := { s with battery := some b }

/-- Append to the move log (R24). -/
def State.logMove (s : State) (l : MoveLabel) : State := { s with moves := s.moves ++ [l] }

/-- Write `was_solved` (R25). -/
def State.writeSolved (s : State) (b : Bool) : State := { s with wasSolved := b }

/-- Replace the inbound queue (R33). -/
def State.setRxq (s : State) (q : List Bytes) : State := { s with rxq := q }

/-- Replace the outbound queue (R35). -/
def State.setTxq (s : State) (q : List Bytes) : State := { s with txq := q }

/-- `send(f)`: append to the outbound queue (R11, R35). -/
def State.send (s : State) (f : Bytes) : State := { s with txq := s.txq ++ [f] }

/-- `emit e`: append to the event port (R11, R36). -/
def State.emit (s : State) (e : Event) : State := { s with evt := s.evt ++ [e] }

/-- Answer on the result port (log 2). -/
def State.setOut (s : State) (r : FuncResult) : State := { s with out := r }

/-- Replace the script (log 1). -/
def State.setScript (s : State) (l : List Item) : State := { s with script := l }

/-- Re-initialise the four Session registers, as `CONNECT` does (R172, R231). -/
def State.newSession (s : State) : State :=
  { s with cube := [], battery := none, moves := [], wasSolved := false }

/-- Empty both queues and leave for `Disconnected`; the Session registers stay as they are (R188, R212). -/
def State.endSession (s : State) : State := { s with rxq := [], txq := [], fsm := .disconnected }

/-! ## How a step ends -/

/-- TAKING AN ERROR (R206), the recovery of every FormatError and ProtocolError: the step ends at the `raise`, and the state
is the one before the frame, less the frame; `before` is that state. Nothing is saved, so there is no return from it (R212). -/
def recover (before : State) (r : Res State) : Host.Outcome State Fault Refusal :=
  match r with
  | .ok s => .next s
  | .raised _ => .next before
  | .refused r => .refused r
  | .fault f => .fault f

/-- A functional unit's answer (R86): its value, or the error it raised, goes to the result port, and nothing else changes. -/
def answer (s : State) (r : Res FuncResult) : Host.Outcome State Fault Refusal :=
  match r with
  | .ok v => .next (s.setOut v)
  | .raised e => .next (s.setOut (.error e))
  | .refused r => .refused r
  | .fault f => .fault f

end Sys2Proof.Machine
end

