-- ==== Sys2Proof/Machine/Cipher.lean ====
section
/-! DEFINITION. The Block Cipher Codec (spec/41_cipher.md), over any cipher. -/

namespace Sys2Proof.Machine

/-- Apply a block function to `n` blocks in buffer order, each on its own (R110, R58). -/
def mapBlocks (f : Block → Block) : Nat → Bytes → Bytes
  | 0, _ => []
  | n + 1, s => blockBytes (f (blockOf (s.take blockSize))) ++ mapBlocks f n (s.drop blockSize)

/-- The input of `ENCRYPT`, padded with zeros up to `ceil16` of its length (R112). -/
def padTo16 (s : Bytes) : Bytes := s ++ zeros (ceil16 s.length - s.length)

/-- `ENCRYPT(s)` under the cipher `cph` and the key `key` (R112). -/
def encrypt (cph : Cipher) (key : Block) (s : Bytes) : Bytes :=
  mapBlocks (cph key) (ceil16 s.length / blockSize) (padTo16 s)

/-- `DECRYPT(c)`: the length test first (R114), then block by block, nothing removed (R113). -/
def decrypt (cph : Cipher) (key : Block) (c : Bytes) : Res Bytes :=
  if c.length % blockSize ≠ 0 then raiseFormat .badCipherLength
  else .ok (mapBlocks (cph key).symm (c.length / blockSize) c)

/-- The functional unit `ENCRYPT` (R112). -/
def execEncrypt (d : Bytes) (s : State) : Host.Outcome State Fault Refusal :=
  answer s (.ok (.bytes (encrypt Config.cipher s.cfg.key d)))

/-- The functional unit `DECRYPT` (R113, R114). -/
def execDecrypt (c : Bytes) (s : State) : Host.Outcome State Fault Refusal :=
  answer s ((decrypt Config.cipher s.cfg.key c).map .bytes)

end Sys2Proof.Machine
end

