-- ==== Sys2Proof/Machine/Crc.lean ====
section
/-! DEFINITION. The Checksum Engine (spec/40_crc.md). -/

namespace Sys2Proof.Machine

/-- `CRC_POLY`, the constant XORed in after a right shift when the bit shifted out was 1 (R7). -/
def crcPoly : Word16 := 0xA001

/-- `CRC_INIT`, the initial value of the CRC register (R7). -/
def crcInit : Word16 := 0xFFFF

/-- One of the eight iterations of R101: the test of bit 0 is made before the shift. -/
def crcShift (r : Word16) : Word16 := if r.getLsbD 0 then (r >>> 1) ^^^ crcPoly else r >>> 1

/-- `n` iterations of `crcShift`. -/
def crcRounds : Nat → Word16 → Word16
  | 0, r => r
  | n + 1, r => crcRounds n (crcShift r)

/-- `CRC_STEP(r, b)` (R101). -/
def crcStep (r : Word16) (b : Byte) : Word16 := crcRounds 8 (r ^^^ b.setWidth 16)

/-- The register after the bytes of `s`, from the register `r` (R102, R105). -/
def crcFrom (r : Word16) (s : Bytes) : Word16 := s.foldl crcStep r

/-- `CRC16(s)` (R102): no final XOR, no bit reversal (R103). -/
def crc16 (s : Bytes) : Word16 := crcFrom crcInit s

/-- The functional unit `CRC16` (R102). -/
def execCrc16 (b : Bytes) (s : State) : Host.Outcome State Fault Refusal := answer s (.ok (.word (crc16 b)))

/-- The functional unit `CRC_STEP` (R101). -/
def execCrcStep (r : Word16) (b : Byte) (s : State) : Host.Outcome State Fault Refusal :=
  answer s (.ok (.word (crcStep r b)))

end Sys2Proof.Machine
end

