-- ==== Sys2Proof/Machine/Frame.lean ====
section
/-! DEFINITION. The Frame Codec (spec/42_frame.md): the builder of R122 step by step, and the parser of R126. -/

namespace Sys2Proof.Machine

/-- The build buffer `B` of `BUILD_FRAME` when step 5 enciphers it: steps 1 to 4 of R122, in order (R120, R123). -/
def framePlain (body : Bytes) : Res Bytes :=
  if body.length < 2 ∨ 253 < body.length then .refused .bodyLength
  else
    let len := body.length + 2
    (memWrite (zeros (ceil16 len)) offMarker [marker]).bind fun b1 =>
    (memWrite b1 offLen [lenByte len]).bind fun b2 =>
    (memWrite b2 offOpcode body).bind fun b3 =>
    let c := crc16 (b3.take (len - 2))
    (memWrite b3 (len - 2) [lo8 c]).bind fun b4 =>
    memWrite b4 (len - 1) [hi8 c]

/-- `BUILD_FRAME(body)` (R121, R122). -/
def buildFrame (cph : Cipher) (cfg : Config) (body : Bytes) : Res Bytes :=
  (framePlain body).map (encrypt cph cfg.key)

/-- `CHECK_CRC(P)` (R129). -/
def checkCrc (p : Bytes) : Res Unit :=
  (memReadByte p offLen).bind fun lb =>
  let len := lb.toNat
  if len < 4 ∨ p.length < len then raiseFormat .tooShort
  else
    (memRead p 0 (len - 2)).bind fun covered =>
    let c := crc16 covered
    (memReadByte p (len - 2)).bind fun lo =>
    (memReadByte p (len - 1)).bind fun hi =>
    if lo ≠ lo8 c ∨ hi ≠ hi8 c then raiseProtocol .badCrc else .ok ()

/-- The marker test and what stands before it: checks 2 and 3 of R130. -/
def checkMarker (p : Bytes) : Res Unit :=
  if p.length < 1 then raiseFormat .tooShort
  else (memReadByte p offMarker).bind fun m => if m ≠ marker then raiseProtocol .badMarker else .ok ()

/-- `PARSE_PLAIN(P)` (R126): checks 2 to 5 of R130, then the opcode byte. -/
def parsePlain (cfg : Config) (p : Bytes) : Res (Bytes × Byte) :=
  (checkMarker p).bind fun _ =>
  if p.length < 3 then raiseFormat .tooShort
  else
    (if cfg.verifyRxCrc then checkCrc p else .ok ()).bind fun _ =>
    (memReadByte p offOpcode).map fun op => (p, op)

/-- `PARSE_FRAME(c)` (R126). -/
def parseFrame (cph : Cipher) (cfg : Config) (c : Bytes) : Res (Bytes × Byte) :=
  (decrypt cph cfg.key c).bind (parsePlain cfg)

/-- The functional unit `BUILD_FRAME` (R122). It does not touch `txq`. -/
def execBuildFrame (body : Bytes) (s : State) : Host.Outcome State Fault Refusal :=
  answer s ((buildFrame Config.cipher s.cfg body).map .bytes)

/-- The functional unit `PARSE_FRAME` (R126). -/
def execParseFrame (c : Bytes) (s : State) : Host.Outcome State Fault Refusal :=
  answer s ((parseFrame Config.cipher s.cfg c).map fun r => .parsed r.1 r.2)

end Sys2Proof.Machine
end

