-- ==== Sys2Proof/Machine/Ack.lean ====
section
/-! DEFINITION. The Acknowledgment Builder (spec/43_ack.md), in the two stages R142 keeps apart. -/

namespace Sys2Proof.Machine

/-- The acknowledgment body made from an ack head: the 9-byte ack buffer without its first two bytes (R141). -/
def ackBody (head : Bytes) : Bytes :=
  let a7 := [marker, ackLen] ++ head
  let a9 := a7 ++ crcBytes (crc16 a7)
  (a9.drop 2).take 7

/-- `BUILD_ACK(P)` (R140, R141); `refuse(TooShort)` on fewer than 7 bytes. -/
def buildAck (p : Bytes) : Res Bytes :=
  if p.length < 7 then .refused .tooShort else (memRead p offAckHead ackHeadLen).map ackBody

/-- The `ACK` frame for an inbound plaintext: `BUILD_FRAME(BUILD_ACK(P))` (R143). -/
def ackFrame (cph : Cipher) (cfg : Config) (p : Bytes) : Res Bytes := (buildAck p).bind (buildFrame cph cfg)

/-- `SEND_ACK(P)` (R87, R186). -/
def sendAck (cph : Cipher) (p : Bytes) (s : State) : Res State := (ackFrame cph s.cfg p).map s.send

/-- The functional unit `BUILD_ACK` (R141). -/
def execBuildAck (p : Bytes) (s : State) : Host.Outcome State Fault Refusal := answer s ((buildAck p).map .bytes)

/-- The outbound frame `ACK` for a given ack head (R143, R77): the frame is answered, not sent (log 14). -/
def execAck (head : FiveBytes) (s : State) : Host.Outcome State Fault Refusal :=
  answer s ((buildFrame Config.cipher s.cfg (ackBody (fiveBytes head))).map .bytes)

end Sys2Proof.Machine
end

