-- ==== Sys2Proof/Machine/Cube.lean ====
section
/-! DEFINITION. The Cube State Model (spec/44_cube.md): the three orderings of R161 and the two colour tables of R159 are
kept apart. -/

namespace Sys2Proof.Machine

/-- `FACECOLOR`, the colour of each face of the solved cube in the face order U, R, F, D, L, B (R151). -/
def faceColor : List Nibble := [3, 1, 4, 2, 0, 5]

/-- `SOLVED`, nine facelets of each face (R7, R151). -/
def solved : List Nibble := faceColor.flatMap (List.replicate 9)

/-- `UNPACK(s)`, low nibble first (R150). -/
def unpack : Bytes → List Nibble
  | [] => []
  | b :: s => loNibble b :: hiNibble b :: unpack s

/-- Two nibbles to a byte, the first in the low half (R152). -/
def packPairs : List Nibble → Bytes
  | a :: b :: q => byteOfNibbles a b :: packPairs q
  | _ => []

/-- `PACK(q)` (R152); `refuse(BadLength)` on other than 54 nibbles. -/
def pack (q : List Nibble) : Res Bytes :=
  if q.length = nFacelets then .ok (packPairs q) else .refused .badLength

/-- `IS_SOLVED(q)`: length 54 and every element equal to that of `SOLVED` (R154, R155). -/
def isSolved (q : List Nibble) : Bool :=
  q.length == nFacelets && (List.range nFacelets).all fun i => q[i]? == solved[i]?

/-- `NOTATION`, the colour-to-letter table from its own literals (R157); no entry above 5. -/
def colorLetters : List Char := ['L', 'R', 'D', 'U', 'F', 'B']

/-- The letters of a nibble sequence, or none if some nibble has no entry (R157). -/
def lettersOf : List Nibble → Option (List Char)
  | [] => some []
  | c :: q =>
    match colorLetters[c.toNat]?, lettersOf q with
    | some l, some ls => some (l :: ls)
    | _, _ => none

/-- `TO_NOTATION(q)` (R158). -/
def toNotation (q : List Nibble) : Res (List Char) :=
  if q.length ≠ nFacelets then .ok []
  else
    match lettersOf q with
    | some ls => .ok ls
    | none => .refused .badColour

/-- `MOVELABEL`, the labels of the move codes 0 to 5 (R7, R160). -/
def moveLabels : List MoveLabel := [.U, .D, .L, .R, .F, .B]

/-- `MOVE_LABEL(m)` (R160). -/
def moveLabel (m : Byte) : Option MoveLabel := moveLabels[m.toNat]?

/-- The functional unit `UNPACK` (R150). -/
def execUnpack (b : Bytes) (s : State) : Host.Outcome State Fault Refusal := answer s (.ok (.nibbles (unpack b)))

/-- The functional unit `PACK` (R152). -/
def execPack (q : List Nibble) (s : State) : Host.Outcome State Fault Refusal := answer s ((pack q).map .bytes)

/-- The functional unit `IS_SOLVED` (R154). -/
def execIsSolved (q : List Nibble) (s : State) : Host.Outcome State Fault Refusal :=
  answer s (.ok (.flag (isSolved q)))

/-- The functional unit `TO_NOTATION` (R158). -/
def execToNotation (q : List Nibble) (s : State) : Host.Outcome State Fault Refusal :=
  answer s ((toNotation q).map .letters)

/-- The functional unit `MOVE_LABEL` (R160). -/
def execMoveLabel (m : Byte) (s : State) : Host.Outcome State Fault Refusal :=
  answer s (.ok (.label (moveLabel m)))

/-- The host's query `IS_SOLVED(cube)` (R192): not a step. -/
def State.querySolved (s : State) : Bool := isSolved s.cube

/-- The host's query `TO_NOTATION(cube)` (R192): not a step. -/
def State.queryLetters (s : State) : Res (List Char) := toNotation s.cube

end Sys2Proof.Machine
end

