-- ==== Sys2Proof/Machine/Flags.lean ====
section
/-! DEFINITION. The flags: the valid bits of R22 and R23, the solved-edge detector (spec/45_session.md R185), the
ack-required bit (R182). -/

namespace Sys2Proof.Machine

/-- `cube_valid` (R22). -/
def State.cubeValid (s : State) : Bool := s.cube.length == nFacelets

/-- `battery_valid` (R23). -/
def State.batteryValid (s : State) : Bool := s.battery.isSome

/-- The edge of R185: solved now and not before. -/
def solvedRises (s : State) : Bool := isSolved s.cube && !s.wasSolved

/-- `SOLVED_EVAL` (R87, R185): the event on the false-to-true edge only, then the flag. -/
def solvedEval (s : State) : State :=
  (if solvedRises s then s.emit .solvedEdge else s).writeSolved (isSolved s.cube)

/-- `ack_required` (R32, R182): `(len(P) > 91) and ACK_PRED(P[91])`; the byte is read only when it is there. -/
def ackRequired (cfg : Config) (p : Bytes) : Res Bool :=
  if offAckFlag < p.length then (memReadByte p offAckFlag).map (ackPred cfg) else .ok false

end Sys2Proof.Machine
end

