-- ==== Sys2Proof/Machine/Session.lean ====
section
/-! DEFINITION. The Session Protocol (spec/45_session.md): the three message handlers, the dispatcher, the commands and
events of the ports, over any cipher; then the meanings, which use the device's. -/

namespace Sys2Proof.Machine

/-! ## The message handlers (order of effects: R177) -/

/-- Emit `STATE_UPDATED` with the registers' new contents (R179). -/
def emitUpdate (s : State) : State := s.emit (.stateUpdated s.cube s.battery)

/-- Append the label of an in-range move code and report it; any other code changes nothing (R180, R181). -/
def recordMove (s : State) (m : Byte) : State :=
  match moveLabel m with
  | some l => (s.logMove l).emit (.moveRecognized l)
  | none => s

/-- `HELLO(P)` (R178). -/
def hello (cph : Cipher) (p : Bytes) (s : State) : Res State :=
  (memRead p offFacelets packedLen).bind fun packed =>
  (memReadByte p offBatt).bind fun batt =>
  let s1 := emitUpdate ((s.writeCube (unpack packed)).writeBattery batt)
  (sendAck cph p (solvedEval s1)).map fun s2 => s2.setFsm .streaming

/-- `MOVE(P)` (R180). -/
def move (cph : Cipher) (p : Bytes) (s : State) : Res State :=
  (memRead p offFacelets packedLen).bind fun packed =>
  (memReadByte p offBatt).bind fun batt =>
  let s1 := emitUpdate ((s.writeCube (unpack packed)).writeBattery batt)
  (memReadByte p offMove).bind fun m =>
  let s2 := solvedEval (recordMove s1 m)
  (ackRequired s.cfg p).bind fun required =>
  (if required then sendAck cph p s2 else .ok s2).map fun s3 => s3.setFsm .streaming

/-- `SYNC_ECHO(P)` (R183). -/
def syncEcho (p : Bytes) (s : State) : Res State :=
  (memRead p offFacelets packedLen).map fun packed =>
  (solvedEval (emitUpdate (s.writeCube (unpack packed)))).setFsm .streaming

/-! ## The dispatcher -/

/-- The three recognized messages (R80). -/
inductive MsgKind where
  | hello
  | move
  | syncEcho
deriving DecidableEq, Repr

/-- The length a buffer must have for a message to be accepted (R62, R176). -/
def minLen (k : MsgKind) : Nat :=
  match k with
  | .hello => 36
  | .move => 36
  | .syncEcho => 34

/-- The opcode map (R80). -/
def kindOf (op : Byte) : Option MsgKind :=
  if op = opHello then some .hello
  else if op = opMove then some .move
  else if op = opSync then some .syncEcho
  else none

/-- Checks 6 and 7 of R130: the opcode is recognized, the buffer is long enough for it (R176, R184). -/
def selectHandler (op : Byte) (p : Bytes) : Res MsgKind :=
  match kindOf op with
  | none => raiseProtocol .unknownOpcode
  | some k => if p.length < minLen k then raiseFormat .tooShort else .ok k

/-- The handler of a message (R176). -/
def handle (cph : Cipher) (k : MsgKind) (p : Bytes) (s : State) : Res State :=
  match k with
  | .hello => hello cph p s
  | .move => move cph p s
  | .syncEcho => syncEcho p s

/-- All checks on a plaintext, in the order of R130 (2 to 7), before the first write (R206). -/
def classify (cfg : Config) (p : Bytes) : Res MsgKind :=
  (parsePlain cfg p).bind fun r => selectHandler r.2 r.1

/-- `DISPATCH(P)` (R176): discarded in `Disconnected` (R174), else checked and handed to exactly one handler. -/
def dispatch (cph : Cipher) (p : Bytes) (s : State) : Res State :=
  if s.fsm = .disconnected then .ok s
  else (classify s.cfg p).bind fun k => handle cph k p s

/-- A message given as the operation it is: the dispatcher's guards, then this handler and no other (R178, R180, R183). A
frame of another opcode is outside the precondition and is refused (log 13). -/
def message (k : MsgKind) (p : Bytes) (s : State) (handler : Res State) : Res State :=
  if s.fsm = .disconnected then .ok s
  else (classify s.cfg p).bind fun k' => if k' = k then handler else .refused .notThisMessage

/-! ## Commands and events -/

/-- `IDENT_PAYLOAD(addr)` (R173): 19 zero bytes with the reversed address at [11, 17). -/
def identPayload (addr : Addr) : Res Bytes := memWrite (zeros identLen) identAddrOff (reversedAddr addr)

/-- The `IDENT` frame (R76, R173). -/
def identFrame (cph : Cipher) (cfg : Config) (addr : Addr) : Res Bytes :=
  (identPayload addr).bind (buildFrame cph cfg)

/-- The body of the `SYNC_REQ` frame: `SYNC_HDR ++ PACK(SOLVED) ++ 00 00` (R78, R190). -/
def syncBody (hdr : FiveBytes) : Res Bytes := (pack solved).map fun pk => fiveBytes hdr ++ pk ++ [0x00, 0x00]

/-- The `SYNC_REQ` frame; `refuse(NoSync)` when the operation is configured away (R78, R190). -/
def syncFrame (cph : Cipher) (cfg : Config) : Res Bytes :=
  if cfg.hasSync then (syncBody cfg.syncHdr).bind (buildFrame cph cfg) else .refused .noSync

/-- `CONNECT(addr)` (R172). -/
def connect (cph : Cipher) (addr : Addr) (s : State) : Res State :=
  if s.fsm = .disconnected then
    (identFrame cph s.cfg addr).map fun f => (s.newSession.send f).setFsm .handshaking
  else .refused .alreadyConnected

/-- `REQUEST_SYNC` (R190): the test of `HAS_SYNC` comes first. -/
def requestSync (cph : Cipher) (s : State) : Res State :=
  if s.cfg.hasSync = false then .refused .noSync
  else if s.fsm = .disconnected then .refused .notConnected
  else (syncFrame cph s.cfg).map s.send

/-- `DECRYPT` then `DISPATCH` on one inbound ciphertext (R175). -/
def receive (cph : Cipher) (c : Bytes) (s : State) : Res State :=
  (decrypt cph s.cfg.key c).bind fun p => dispatch cph p s

/-- `RX` (R175): the head is removed whether the frame is accepted or dropped. Enabled only when `rxq` is not empty (log 9). -/
def rx (cph : Cipher) (s : State) : Host.Outcome State Fault Refusal :=
  match s.rxq with
  | [] => .refused .rxqEmpty
  | c :: rest => recover (s.setRxq rest) (receive cph c (s.setRxq rest))

/-! ## The meanings -/

/-- `HELLO` (R178). -/
def execHello (p : Bytes) (s : State) : Host.Outcome State Fault Refusal :=
  recover s (message .hello p s (hello Config.cipher p s))

/-- `MOVE` (R180). -/
def execMove (p : Bytes) (s : State) : Host.Outcome State Fault Refusal :=
  recover s (message .move p s (move Config.cipher p s))

/-- `SYNC_ECHO` (R183). -/
def execSyncEcho (p : Bytes) (s : State) : Host.Outcome State Fault Refusal :=
  recover s (message .syncEcho p s (syncEcho p s))

/-- The outbound frame `IDENT` (R173): the frame is answered, not sent (log 14). -/
def execIdent (addr : Addr) (s : State) : Host.Outcome State Fault Refusal :=
  answer s ((identFrame Config.cipher s.cfg addr).map .bytes)

/-- The outbound frame `SYNC_REQ` (R190): the frame is answered, not sent (log 14, log 15). -/
def execSyncReq (s : State) : Host.Outcome State Fault Refusal :=
  answer s ((syncFrame Config.cipher s.cfg).map .bytes)

/-- `CONNECT` (R172). -/
def execConnect (addr : Addr) (s : State) : Host.Outcome State Fault Refusal :=
  recover s (connect Config.cipher addr s)

/-- `RX` (R175). -/
def execRx (s : State) : Host.Outcome State Fault Refusal := rx Config.cipher s

/-- `DISPATCH` (R176). -/
def execDispatch (p : Bytes) (s : State) : Host.Outcome State Fault Refusal :=
  recover s (dispatch Config.cipher p s)

/-- `TX_DONE` (R191): removes the head of `txq`. Enabled only when `txq` is not empty (log 9). -/
def execTxDone (s : State) : Host.Outcome State Fault Refusal :=
  match s.txq with
  | [] => .refused .txqEmpty
  | _ :: rest => .next (s.setTxq rest)

/-- `REQUEST_SYNC` (R190). -/
def execRequestSync (s : State) : Host.Outcome State Fault Refusal := recover s (requestSync Config.cipher s)

/-- `TEARDOWN` (R188). -/
def execTeardown (s : State) : Host.Outcome State Fault Refusal :=
  if s.fsm = .disconnected then .next s else .next s.endSession

/-- `TRANSPORT_ERROR` (R189, R203): as `TEARDOWN`, and the host is told. -/
def execTransportError (s : State) : Host.Outcome State Fault Refusal :=
  if s.fsm = .disconnected then .next s else .next (s.endSession.emit (.error .transportError))

/-- `DELIVER(c)` (R174): discarded in `Disconnected`, else queued unread. -/
def execDeliver (c : Bytes) (s : State) : Host.Outcome State Fault Refusal :=
  if s.fsm = .disconnected then .next s else .next (s.setRxq (s.rxq ++ [c]))

end Sys2Proof.Machine
end

