-- ==== Sys2Proof/Machine/Dispatch.lean ====
section
/-! DEFINITION. One arm per operation of spec/30_encoding.md R86, each a direct call of its meaning. -/

namespace Sys2Proof.Machine

def exec (i : Instr) (s : State) : Host.Outcome State Fault Refusal :=
  match i with
  | .crc16 b => Sys2Proof.Machine.execCrc16 b s
  | .crcStep r b => Sys2Proof.Machine.execCrcStep r b s
  | .encrypt d => Sys2Proof.Machine.execEncrypt d s
  | .decrypt c => Sys2Proof.Machine.execDecrypt c s
  | .buildFrame body => Sys2Proof.Machine.execBuildFrame body s
  | .parseFrame c => Sys2Proof.Machine.execParseFrame c s
  | .buildAck p => Sys2Proof.Machine.execBuildAck p s
  | .unpack b => Sys2Proof.Machine.execUnpack b s
  | .pack q => Sys2Proof.Machine.execPack q s
  | .isSolved q => Sys2Proof.Machine.execIsSolved q s
  | .toNotation q => Sys2Proof.Machine.execToNotation q s
  | .moveLabel m => Sys2Proof.Machine.execMoveLabel m s
  | .hello p => Sys2Proof.Machine.execHello p s
  | .move p => Sys2Proof.Machine.execMove p s
  | .syncEcho p => Sys2Proof.Machine.execSyncEcho p s
  | .ident a => Sys2Proof.Machine.execIdent a s
  | .ack h => Sys2Proof.Machine.execAck h s
  | .syncReq => Sys2Proof.Machine.execSyncReq s
  | .connect a => Sys2Proof.Machine.execConnect a s
  | .rx => Sys2Proof.Machine.execRx s
  | .dispatch p => Sys2Proof.Machine.execDispatch p s
  | .txDone => Sys2Proof.Machine.execTxDone s
  | .requestSync => Sys2Proof.Machine.execRequestSync s
  | .teardown => Sys2Proof.Machine.execTeardown s
  | .transportError => Sys2Proof.Machine.execTransportError s
  | .deliver c => Sys2Proof.Machine.execDeliver c s

end Sys2Proof.Machine
end

