-- ==== Sys2Proof/WellFormed.lean ====
section
/-! DEFINITION. Which terms of `Instr` are operations of the block: an inbound message must match its row of the opcode
table (spec/30_encoding.md R80, R83). Every other operand may hold any value: what is outside an operation's domain is refused
when it runs (spec/60_exceptions.md R208), not ill-formed. -/

namespace Sys2Proof

/-- The plaintext matches an RXFRAME row: byte 0 is the marker, byte 2 the row's opcode, and it is at least `min_len` long
(R73 to R75, R83). Byte 1 is not decoded. -/
def matchesRow (op : Byte) (minLen : Nat) (p : Bytes) : Bool :=
  p[0]? == some Machine.marker && p[2]? == some op && decide (minLen ≤ p.length)

/-- The well-formed instructions. -/
def Instr.wf : Instr → Bool
  | .crc16 _ => true
  | .crcStep _ _ => true
  | .encrypt _ => true
  | .decrypt _ => true
  | .buildFrame _ => true
  | .parseFrame _ => true
  | .buildAck _ => true
  | .unpack _ => true
  | .pack _ => true
  | .isSolved _ => true
  | .toNotation _ => true
  | .moveLabel _ => true
  | .hello p => matchesRow Machine.opHello 36 p
  | .move p => matchesRow Machine.opMove 36 p
  | .syncEcho p => matchesRow Machine.opSync 34 p
  | .ident _ => true
  | .ack _ => true
  | .syncReq => true
  | .connect _ => true
  | .rx => true
  | .dispatch _ => true
  | .txDone => true
  | .requestSync => true
  | .teardown => true
  | .transportError => true
  | .deliver _ => true

end Sys2Proof
end

