-- ==== Sys2Proof/Decode.lean ====
section
/-! DEFINITION. The decoder, total on every item and rejecting by name, and after it the encoder, both written from
spec/30_encoding.md: the opcode map (R80), the frame layouts (R70, R73 to R78), the script lines (R85). -/

namespace Sys2Proof

/-! ## Inbound frames (R80) -/

/-- The opcode map of R80 on a plaintext: bytes 0 and 2, then the row's `min_len` (R83). Byte 1 is not decoded. -/
def decodeInbound (p : Bytes) : Except DecodeError Instr :=
  match p[0]?, p[2]? with
  | none, _ => .error (.dropped (.formatError .tooShort))
  | some m, op? =>
    if m ≠ Machine.marker then .error (.dropped (.protocolError .badMarker))
    else
      match op? with
      | none => .error (.dropped (.formatError .tooShort))
      | some op =>
        if op = Machine.opHello then
          (if 36 ≤ p.length then .ok (.hello p) else .error (.dropped (.formatError .tooShort)))
        else if op = Machine.opMove then
          (if 36 ≤ p.length then .ok (.move p) else .error (.dropped (.formatError .tooShort)))
        else if op = Machine.opSync then
          (if 34 ≤ p.length then .ok (.syncEcho p) else .error (.dropped (.formatError .tooShort)))
        else .error (.dropped (.protocolError .unknownOpcode))

/-! ## Outbound frames (R76 to R78) -/

/-- The row of an outbound plaintext by its first bytes, then the operand from its offsets: the address at 13 to 18 (R76), the
ack head at 2 to 6 (R77). The CRC and the padding are not decoded (log 29). -/
def decodeOutbound (p : Bytes) : Except DecodeError Instr :=
  if p.take 3 = [0xFE, 0x15, 0x00] then
    match p.drop 13 with
    | a5 :: a4 :: a3 :: a2 :: a1 :: a0 :: _ => .ok (.ident ⟨a0, a1, a2, a3, a4, a5⟩)
    | _ => .error .notOutbound
  else if p.take 2 = [0xFE, 0x09] then
    match p.drop 2 with
    | h0 :: h1 :: h2 :: h3 :: h4 :: _ => .ok (.ack ⟨h0, h1, h2, h3, h4⟩)
    | _ => .error .notOutbound
  else if p.take 3 = [0xFE, 0x24, 0x04] then .ok .syncReq
  else .error .notOutbound

/-! ## Script lines (R85) -/

/-- Cut a text at every separator; the pieces, in order, some of them possibly empty. -/
def splitOn (sep : Char) : List Char → List (List Char)
  | [] => [[]]
  | c :: cs =>
    if c = sep then [] :: splitOn sep cs
    else
      match splitOn sep cs with
      | [] => [[c]]
      | w :: ws => (c :: w) :: ws

/-- The words of a line: what stands before the comment, cut at spaces (R85). -/
def lineWords (text : List Char) : List (List Char) :=
  (splitOn ' ' (text.takeWhile (· ≠ ';'))).filter (· ≠ [])

/-- The value of a hexadecimal digit, of either case (log 27). -/
def hexVal (c : Char) : Option Nat :=
  if 48 ≤ c.toNat ∧ c.toNat ≤ 57 then some (c.toNat - 48)
  else if 65 ≤ c.toNat ∧ c.toNat ≤ 70 then some (c.toNat - 55)
  else if 97 ≤ c.toNat ∧ c.toNat ≤ 102 then some (c.toNat - 87)
  else none

/-- A byte, two hexadecimal digits (R85). -/
def parseByte : List Char → Option Byte
  | [h, l] =>
    match hexVal h, hexVal l with
    | some a, some b => some (BitVec.ofNat 8 (16 * a + b))
    | _, _ => none
  | _ => none

/-- A sequence of bytes, one a word (R85). -/
def parseBytes : List (List Char) → Option Bytes
  | [] => some []
  | w :: ws =>
    match parseByte w, parseBytes ws with
    | some b, some bs => some (b :: bs)
    | _, _ => none

/-- An address, six bytes separated by colons (R85). -/
def parseAddr (w : List Char) : Option Addr :=
  match parseBytes (splitOn ':' w) with
  | some [a0, a1, a2, a3, a4, a5] => some ⟨a0, a1, a2, a3, a4, a5⟩
  | _ => none

/-- `CONNECT`. -/
def kwConnect : List Char := ['C', 'O', 'N', 'N', 'E', 'C', 'T']

/-- `DELIVER`. -/
def kwDeliver : List Char := ['D', 'E', 'L', 'I', 'V', 'E', 'R']

/-- `RX`. -/
def kwRx : List Char := ['R', 'X']

/-- `RXP`. -/
def kwRxp : List Char := ['R', 'X', 'P']

/-- `TXDONE`. -/
def kwTxDone : List Char := ['T', 'X', 'D', 'O', 'N', 'E']

/-- `SYNCREQ`. -/
def kwSyncReq : List Char := ['S', 'Y', 'N', 'C', 'R', 'E', 'Q']

/-- `TEARDOWN`. -/
def kwTeardown : List Char := ['T', 'E', 'A', 'R', 'D', 'O', 'W', 'N']

/-- `TERR`. -/
def kwTerr : List Char := ['T', 'E', 'R', 'R']

/-- An operation without operands: it stands alone on its line. -/
def noOperands (i : Instr) (args : List (List Char)) : Except DecodeError Instr :=
  if args = [] then .ok i else .error .badOperand

/-- An operation whose operand is all the bytes after the first word, none of them an empty byte string. -/
def bytesOperand (f : Bytes → Instr) (args : List (List Char)) : Except DecodeError Instr :=
  match parseBytes args with
  | some bs => .ok (f bs)
  | none => .error .badOperand

/-- One line of a script (R85). -/
def decodeLine (text : List Char) : Except DecodeError Instr :=
  match lineWords text with
  | [] => .error .blankLine
  | w :: args =>
    if w = kwConnect then
      (match args with
       | [a] =>
         match parseAddr a with
         | some addr => .ok (.connect addr)
         | none => .error .badOperand
       | _ => .error .badOperand)
    else if w = kwDeliver then bytesOperand .deliver args
    else if w = kwRxp then bytesOperand .dispatch args
    else if w = kwRx then noOperands .rx args
    else if w = kwTxDone then noOperands .txDone args
    else if w = kwSyncReq then noOperands .requestSync args
    else if w = kwTeardown then noOperands .teardown args
    else if w = kwTerr then noOperands .transportError args
    else .error .unknownWord

/-! ## The decoder -/

/-- The operation an item stands for, or why it is none. -/
def decode (it : Item) : Except DecodeError Instr :=
  match it with
  | .line text => decodeLine text
  | .frame .inbound p => decodeInbound p
  | .frame .outbound p => decodeOutbound p
  | .call f => if f.format = .func then .ok f else .error .notFunctional

/-! ## The encoder -/

/-- The plaintext image of a frame with the given content (R70): marker, length, content, CRC low byte first, padding. -/
def frameImage (content : Bytes) : Bytes :=
  let len := content.length + 4
  let head := [0xFE, BitVec.ofNat 8 len] ++ content
  let c := Machine.crc16 head
  head ++ [Machine.lo8 c, Machine.hi8 c] ++ Machine.zeros (Machine.ceil16 len - len)

/-- The packed facelets of `SYNC_REQ` as R78 prints them. -/
def packedSolvedImage : Bytes :=
  [0x33, 0x33, 0x33, 0x33, 0x13, 0x11, 0x11, 0x11, 0x11, 0x44, 0x44, 0x44, 0x44, 0x24] ++
  [0x22, 0x22, 0x22, 0x22, 0x00, 0x00, 0x00, 0x00, 0x50, 0x55, 0x55, 0x55, 0x55]

/-- The digit of a nibble, capitals for ten to fifteen. -/
def hexDigit (n : Nibble) : Char := Char.ofNat (if n.toNat < 10 then 48 + n.toNat else 55 + n.toNat)

/-- The two digits of a byte, high nibble first (R85). -/
def hexByte (b : Byte) : List Char := [hexDigit (Machine.hiNibble b), hexDigit (Machine.loNibble b)]

/-- Bytes after the first word of a line, each after one space (R85). -/
def spacedBytes : Bytes → List Char
  | [] => []
  | b :: bs => ' ' :: (hexByte b ++ spacedBytes bs)

/-- An address with its colons (R85). -/
def addrText (a : Addr) : List Char :=
  hexByte a.a0 ++ ':' :: hexByte a.a1 ++ ':' :: hexByte a.a2 ++ ':' :: hexByte a.a3 ++ ':' :: hexByte a.a4 ++
    ':' :: hexByte a.a5

/-- How an operation is written: the line of R85, the plaintext of its frame (R73 to R78, `SYNC_REQ` with the default
`SYNC_HDR` as its row of the table has it), or the call itself. -/
def encode (i : Instr) : Item :=
  match i with
  | .crc16 s => .call (.crc16 s)
  | .crcStep r b => .call (.crcStep r b)
  | .encrypt d => .call (.encrypt d)
  | .decrypt c => .call (.decrypt c)
  | .buildFrame body => .call (.buildFrame body)
  | .parseFrame c => .call (.parseFrame c)
  | .buildAck p => .call (.buildAck p)
  | .unpack s => .call (.unpack s)
  | .pack q => .call (.pack q)
  | .isSolved q => .call (.isSolved q)
  | .toNotation q => .call (.toNotation q)
  | .moveLabel m => .call (.moveLabel m)
  | .hello p => .frame .inbound p
  | .move p => .frame .inbound p
  | .syncEcho p => .frame .inbound p
  | .ident a => .frame .outbound (frameImage (Machine.zeros 11 ++ Machine.reversedAddr a))
  | .ack h => .frame .outbound (frameImage (Machine.fiveBytes h))
  | .syncReq => .frame .outbound (frameImage ([0x04, 0x00, 0x00, 0x00, 0x00] ++ packedSolvedImage))
  | .connect a => .line (kwConnect ++ ' ' :: addrText a)
  | .rx => .line kwRx
  | .dispatch p => .line (kwRxp ++ spacedBytes p)
  | .txDone => .line kwTxDone
  | .requestSync => .line kwSyncReq
  | .teardown => .line kwTeardown
  | .transportError => .line kwTerr
  | .deliver c => .line (kwDeliver ++ spacedBytes c)

/-! ## The words of the opcode table -/

/-- The first `n` bytes of a plaintext from a word of the table: byte 0 is the most significant (R83: `v = P[0] * 65536 +
P[1] * 256 + P[2]`), as the table's own bit numbers have it (marker at bits 23..16, opcode at 7..0). -/
def tableBytes (n w : Nat) : Bytes := (List.range n).map fun j => BitVec.ofNat 8 (w >>> (8 * (n - 1 - j)))

/-- The word is that of a TXFRAME row: `FE 15 00`, `FE 09 h` or `FE 24 04` (R83; log 12). -/
def isOutboundWord (v : Bytes) : Bool :=
  v == [0xFE, 0x15, 0x00] || v.take 2 == [0xFE, 0x09] || v == [0xFE, 0x24, 0x04]

/-- The frame whose first bytes are a word of the table and whose other bytes are zero: 96 bytes inbound, the least multiple
of 16 that holds every field of R63, 48 bytes outbound, the longest outbound frame. -/
def tableItem (nbits w : Nat) : Item :=
  let v := tableBytes (nbits / 8) w
  if isOutboundWord v then .frame .outbound (v ++ Machine.zeros (48 - v.length))
  else .frame .inbound (v ++ Machine.zeros (96 - v.length))

/-- The instruction the decoder reads from a word of the opcode table, or none where it refuses. -/
def decodeTableWord (nbits w : Nat) : Option Instr :=
  match decode (tableItem nbits w) with
  | .ok i => some i
  | .error _ => none

end Sys2Proof
end

