-- ==== Sys2Proof/Machine/Fetch.lean ====
section
/-! DEFINITION. Which operation comes next (spec/45_session.md R170, spec/30_encoding.md R85): the script decides while it
lasts, then the block takes `RX` while `rxq` is not empty, then it is idle (R193). -/

namespace Sys2Proof.Machine

/-- What the machine does next. -/
inductive Fetched where
  /-- Run this operation in this state. -/
  | run (i : Instr) (s : State)
  /-- Nothing runs, and this is the state: the block is idle (R41), an inbound frame was dropped (R206), or a line held only a comment (R85). -/
  | pass (s : State)
  /-- The script's next entry is no operation. -/
  | refuse (r : Refusal)
deriving DecidableEq, Repr

/-- What a decoder's rejection leads to: a dropped frame and a blank line are passed over, anything else is refused (log 11). -/
def rejected (e : DecodeError) (s : State) : Fetched :=
  match e with
  | .dropped _ => .pass s
  | .blankLine => .pass s
  | .unknownWord => .refuse (.undecodable .unknownWord)
  | .badOperand => .refuse (.undecodable .badOperand)
  | .notOutbound => .refuse (.undecodable .notOutbound)
  | .notFunctional => .refuse (.undecodable .notFunctional)

/-- Take the next operation: the script's next entry (the script moves past it), or `RX`, or none. -/
def fetch (s : State) : Fetched :=
  match s.script with
  | it :: rest =>
    match decode it with
    | .ok i => .run i (s.setScript rest)
    | .error e => rejected e (s.setScript rest)
  | [] =>
    match s.rxq with
    | [] => .pass s
    | _ :: _ => .run .rx s

end Sys2Proof.Machine
end

