-- ==== Sys2Proof/Machine/Step.lean ====
section
/-! DEFINITION. One step of the machine, and where a word of the opcode table is put so that the next step runs it. -/

namespace Sys2Proof.Machine

/-- One step: take the next operation and run it. Each operation is one atomic step (R65). -/
def step (s : State) : Host.Outcome State Fault Refusal :=
  match fetch s with
  | .run i t => exec i t
  | .pass t => .next t
  | .refuse r => .refused r

/-- The state with a word of the opcode table as the script's next entry (log 12). Nothing else changes. -/
def State.withFetchWord (s : State) (nbits w : Nat) : State := s.setScript (tableItem nbits w :: s.script)

end Sys2Proof.Machine
end

