-- ==== Sys2Proof/Safety.lean ====
section
/-! DEFINITION. What a good state and a good run of the block are, in the terms the statements use: the invariants of
spec/10_state.md R27, the agents' rights of spec/60_exceptions.md R215, runs of several operations. -/

namespace Sys2Proof.Machine

/-! ## Events -/

/-- The labels reported on the event port, in order (R181). -/
def reportedLabels : List Event → List MoveLabel
  | [] => []
  | .moveRecognized l :: es => l :: reportedLabels es
  | _ :: es => reportedLabels es

/-- The snapshots reported on the event port, in order (R179). -/
def reportedSnapshots : List Event → List (List Nibble × Option Byte)
  | [] => []
  | .stateUpdated c b :: es => (c, b) :: reportedSnapshots es
  | _ :: es => reportedSnapshots es

/-- The number of `SOLVED_EDGE` events (R185). -/
def edgeCount : List Event → Nat
  | [] => 0
  | .solvedEdge :: es => edgeCount es + 1
  | _ :: es => edgeCount es

/-- The number of changes from false to true in a sequence of values, after a first value (R185). -/
def rises : Bool → List Bool → Nat
  | _, [] => 0
  | prev, b :: bs => (if b && !prev then 1 else 0) + rises b bs

/-- What the event port may hold: snapshots of 54 facelets (R179), and no error but TransportError (R36). -/
def Event.allowed : Event → Bool
  | .stateUpdated c _ => c.length == nFacelets
  | .moveRecognized _ => true
  | .solvedEdge => true
  | .error e => e == .transportError

/-! ## The invariant -/

/-- The invariants of R27, with what R36, R172 to R191 make true of the queues and the event port besides. -/
structure Inv (s : State) : Prop where
  /-- `len(cube)` is 0 or 54 (R22, R27). -/
  cubeLen : s.cube.length = 0 ∨ s.cube.length = nFacelets
  /-- Before the first accepted message of a session nothing is known of the cube (R27, R172). -/
  fresh : s.fsm = .handshaking → s.cube = [] ∧ s.battery = none ∧ s.moves = []
  /-- `fsm = Streaming` implies `len(cube) = 54` (R27). -/
  streamingCube : s.fsm = .streaming → s.cube.length = nFacelets
  /-- `was_solved = isSolved(cube)` (R27). -/
  solvedFlag : s.wasSolved = isSolved s.cube
  /-- A battery byte comes only with a cube (R178, R180). -/
  batteryCube : s.battery ≠ none → s.cube.length = nFacelets
  /-- A logged move comes only with a battery byte (R180). -/
  movesBattery : s.moves ≠ [] → s.battery ≠ none
  /-- Both queues are empty in `Disconnected` (R174, R188, R189). -/
  disconnectedQueues : s.fsm = .disconnected → s.rxq = [] ∧ s.txq = []
  /-- Every outbound frame is an `ACK`, an `IDENT` or a `SYNC_REQ` by its length on the wire (R76 to R78). -/
  frameLen : ∀ f ∈ s.txq, f.length = 16 ∨ f.length = 32 ∨ f.length = 48
  /-- The event port holds allowed events only. -/
  events : ∀ e ∈ s.evt, e.allowed = true
  /-- The move log is the last part of what was reported (R181). -/
  movesReported : s.moves <:+ reportedLabels s.evt
  /-- In `Streaming` the last snapshot reported is what the registers hold (R179). -/
  lastSnapshot : s.fsm = .streaming → (reportedSnapshots s.evt).getLast? = some (s.cube, s.battery)

/-! ## What the layouts print, written out once more for the statements -/

/-- The 54 facelets of an inbound plaintext, facelet `i` from byte `7 + i div 2`, low nibble when `i` is even (R79). -/
def faceletsOf (p : Bytes) : List Nibble :=
  (List.range 54).map fun i =>
    if i % 2 = 0 then (p.getD (7 + i / 2) 0).extractLsb' 0 4 else (p.getD (7 + i / 2) 0).extractLsb' 4 4

/-- `SOLVED` as R151 prints it. -/
def solvedImage : List Nibble :=
  List.replicate 9 3 ++ List.replicate 9 1 ++ List.replicate 9 4 ++ List.replicate 9 2 ++ List.replicate 9 0 ++
    List.replicate 9 5

/-- The plaintext of the `IDENT` frame as R76 prints it. -/
def identImage (a : Addr) : Bytes :=
  let head : Bytes := [0xFE, 0x15] ++ List.replicate 11 0x00 ++ [a.a5, a.a4, a.a3, a.a2, a.a1, a.a0]
  head ++ [lo8 (crc16 head), hi8 (crc16 head)] ++ List.replicate 11 0x00

/-- The plaintext of the `ACK` frame for the five bytes of an ack head, as R77 prints it. -/
def ackImage (h : Bytes) : Bytes :=
  let head : Bytes := [0xFE, 0x09] ++ h
  head ++ [lo8 (crc16 head), hi8 (crc16 head)] ++ List.replicate 7 0x00

/-- The plaintext of the `SYNC_REQ` frame as R78 prints it. -/
def syncImage (h : FiveBytes) : Bytes :=
  let head : Bytes := [0xFE, 0x24, h.h0, h.h1, h.h2, h.h3, h.h4] ++ packedSolvedImage
  head ++ [lo8 (crc16 head), hi8 (crc16 head)] ++ List.replicate 12 0x00

/-- The length byte of a plaintext is between 4 and the buffer's length (R129). -/
def lengthByteGood (p : Bytes) : Bool :=
  match p[1]? with
  | some b => decide (4 ≤ b.toNat ∧ b.toNat ≤ p.length)
  | none => false

/-- The length byte is good and the two bytes before its end are the CRC of what precedes them (R129). -/
def trailerGood (p : Bytes) : Bool :=
  match p[1]? with
  | some b =>
    lengthByteGood p && p[b.toNat - 2]? == some (lo8 (crc16 (p.take (b.toNat - 2)))) &&
      p[b.toNat - 1]? == some (hi8 (crc16 (p.take (b.toNat - 2))))
  | none => false

/-- What a block with this configuration asks of the trailer of an inbound frame: nothing, unless it verifies (R128, R129). -/
def trailerAccepted (cfg : Config) (p : Bytes) : Bool := !cfg.verifyRxCrc || trailerGood p

/-- An inbound plaintext the block acts on: one of the three rows, and an accepted trailer (R130, R171). -/
def acceptedFrame (cfg : Config) (p : Bytes) : Bool :=
  (matchesRow 0x02 36 p || matchesRow 0x03 36 p || matchesRow 0x04 34 p) && trailerAccepted cfg p

/-- The label a frame adds to the move log: that of an in-range code of a `MOVE` (R180, R181). -/
def loggedBy (p : Bytes) : Option MoveLabel :=
  if p[2]? = some 0x03 then
    match p[34]? with
    | some m => ([.U, .D, .L, .R, .F, .B] : List MoveLabel)[m.toNat]?
    | none => none
  else none

/-- The battery byte a frame brings: byte 35 of a `HELLO` or a `MOVE` (R178, R180, R183). -/
def batteryBy (p : Bytes) : Option Byte := if p[2]? = some 0x04 then none else p[35]?

/-- The acknowledgments a frame calls for: one for a `HELLO`, one for a `MOVE` whose flag at 91 says so, as ciphertexts
(R178, R180, R182, R186). -/
def acksFor (cfg : Config) (p : Bytes) : List Bytes :=
  if p[2]? = some 0x02 ∨ (p[2]? = some 0x03 ∧ ∃ b ∈ p[91]?, ackPred cfg b = true) then
    [encrypt Config.cipher cfg.key (ackImage ((p.drop 2).take 5))]
  else []

/-- The offsets of a plaintext that some rule reads when trailers are not checked (R53, R63, R178, R180, R183): marker and
opcode; the ack head when an acknowledgment is built; the facelets of a recognized message; the move code and the flag of a
`MOVE`; the battery byte of a `HELLO` or a `MOVE`. -/
def readOffset (cfg : Config) (p : Bytes) (j : Nat) : Prop :=
  j = 0 ∨ j = 2 ∨ (3 ≤ j ∧ j < 7 ∧ acksFor cfg p ≠ []) ∨
  (7 ≤ j ∧ j < 34 ∧ (p[2]? = some 0x02 ∨ p[2]? = some 0x03 ∨ p[2]? = some 0x04)) ∨
  ((j = 34 ∨ j = 91) ∧ p[2]? = some 0x03) ∨ (j = 35 ∧ (p[2]? = some 0x02 ∨ p[2]? = some 0x03))

/-- The solved edge as an event, when `now` is the canonical solved state and the flag was not set (R185). -/
def edgeEvent (wasSolved : Bool) (now : List Nibble) : List Event :=
  if now = solvedImage ∧ wasSolved = false then [.solvedEdge] else []

/-! ## Rights and frames -/

/-- The agents of R20, and the functional units, which no agent owns. -/
inductive Agent where
  | host
  | transport
  | block
  | unit
deriving DecidableEq, Repr

/-- On whose port an operation stands (R170, R215). -/
def issuer : Instr → Agent
  | .crc16 _ => .unit
  | .crcStep _ _ => .unit
  | .encrypt _ => .unit
  | .decrypt _ => .unit
  | .buildFrame _ => .unit
  | .parseFrame _ => .unit
  | .buildAck _ => .unit
  | .unpack _ => .unit
  | .pack _ => .unit
  | .isSolved _ => .unit
  | .toNotation _ => .unit
  | .moveLabel _ => .unit
  | .hello _ => .block
  | .move _ => .block
  | .syncEcho _ => .block
  | .ident _ => .unit
  | .ack _ => .unit
  | .syncReq => .unit
  | .connect _ => .host
  | .rx => .block
  | .dispatch _ => .block
  | .txDone => .transport
  | .requestSync => .host
  | .teardown => .host
  | .transportError => .transport
  | .deliver _ => .transport

/-- The four Session registers of R12 hold the same values in both states. -/
def sameSession (s t : State) : Prop :=
  t.cube = s.cube ∧ t.battery = s.battery ∧ t.moves = s.moves ∧ t.wasSolved = s.wasSolved

/-- The transitions of R171: what `fsm` may become in one operation. -/
def fsmMay (i : Instr) (before after : Fsm) : Prop :=
  after = before ∨
  (before = .disconnected ∧ after = .handshaking ∧ ∃ a, i = .connect a) ∨
  (before ≠ .disconnected ∧ after = .streaming ∧ issuer i = .block) ∨
  (before ≠ .disconnected ∧ after = .disconnected ∧ (i = .teardown ∨ i = .transportError))

/-! ## Runs -/

/-- Several operations in order, stopping at the first fault or refusal. -/
def runAll : List Instr → State → Host.Outcome State Fault Refusal
  | [], s => .next s
  | i :: is, s =>
    match exec i s with
    | .next t => runAll is t
    | .fault f => .fault f
    | .refused r => .refused r

/-- A script that delivers buffers and processes each at once (R66). -/
def deliverEach : List Bytes → List Instr
  | [] => []
  | c :: cs => .deliver c :: .rx :: deliverEach cs

end Sys2Proof.Machine
end

