-- ==== Sys2Proof/Certificates/Slice0/Obligations.lean ====
section
/-! DEFINITION. The statements for the provers. Each formalises rules of spec/; where the spec marks a rule as its own
decision (D<n>) or derivation, or the model made a choice (log <n>), the docstring says so. -/

open Sys2Proof Sys2Proof.Machine

/-! ## The Checksum Engine -/

/-- R101, R102: the units answer eight iterations of the shift on `r ^ b`, and the fold of that step over the bytes from
`0xFFFF`; nothing but the result port changes (the port is log 2). -/
def Obligations.CrcUnitsComputeTheirAlgorithm : Prop :=
  ∀ (s : State) (bytes : Bytes) (r : Word16) (b : Byte),
    exec (.crcStep r b) s = .next { s with
      out := .word ((fun x : Word16 => if x.getLsbD 0 then (x >>> 1) ^^^ 0xA001 else x >>> 1)^[8]
        (r ^^^ b.setWidth 16)) } ∧
    exec (.crc16 []) s = .next { s with out := .word 0xFFFF } ∧
    ∃ v, exec (.crc16 bytes) s = .next { s with out := .word v } ∧
      exec (.crc16 (bytes ++ [b])) s = exec (.crcStep v b) s

/-- R105 (derived by the spec from R102): the engine may go on from the register over more bytes. -/
def Obligations.CrcContinuesFromItsRegister : Prop :=
  ∀ s t : Bytes, crc16 (s ++ t) = t.foldl crcStep (crc16 s)

/-- R106 (derived by the spec from R101, R102, R104): running the engine over a message and its own trailer leaves zero. -/
def Obligations.CrcResidueIsZero : Prop :=
  ∀ s : Bytes, crc16 (s ++ [lo8 (crc16 s), hi8 (crc16 s)]) = 0

/-! ## The Block Cipher Codec -/

/-- R112: `ENCRYPT` pads with zeros to the least multiple of 16, then enciphers each block on its own; whole blocks get no
padding; the unit answers that and changes nothing else. For every cipher and key. -/
def Obligations.EncryptPadsThenEnciphersEachBlock : Prop :=
  (∀ (cph : Cipher) (key : Block) (bs : List Block),
    encrypt cph key (bs.flatMap blockBytes) = bs.flatMap fun b => blockBytes (cph key b)) ∧
  (∀ (cph : Cipher) (key : Block) (d : Bytes),
    ∃ bs : List Block, bs.flatMap blockBytes = d ++ List.replicate (ceil16 d.length - d.length) 0x00 ∧
      encrypt cph key d = bs.flatMap fun b => blockBytes (cph key b)) ∧
  ∀ (s : State) (d : Bytes),
    exec (.encrypt d) s = .next { s with out := .bytes (encrypt Config.cipher s.cfg.key d) }

/-- R113, R114: `DECRYPT` of whole blocks deciphers each on its own and removes nothing; any other length raises
`FormatError(BadCipherLength)` before any output. -/
def Obligations.DecryptDeciphersBlocksOrRaises : Prop :=
  (∀ (cph : Cipher) (key : Block) (bs : List Block),
    decrypt cph key (bs.flatMap blockBytes) = .ok (bs.flatMap fun b => blockBytes ((cph key).symm b))) ∧
  (∀ (s : State) (c : Bytes), c.length % 16 = 0 → ∃ p, p.length = c.length ∧
    decrypt Config.cipher s.cfg.key c = .ok p ∧ exec (.decrypt c) s = .next { s with out := .bytes p }) ∧
  ∀ (s : State) (c : Bytes), c.length % 16 ≠ 0 →
    exec (.decrypt c) s = .next { s with out := .error (.formatError .badCipherLength) }

/-- R115 (derived by the spec; the reading of conflict C1): the round trip gives the input and its padding back, under every
cipher and key. -/
def Obligations.DecryptUndoesEncryptUpToPadding : Prop :=
  ∀ (cph : Cipher) (key : Block) (d : Bytes),
    decrypt cph key (encrypt cph key d) = .ok (d ++ List.replicate (ceil16 d.length - d.length) 0x00)

/-- R116 (derived by the spec from R112): the padding cannot be told from data. -/
def Obligations.PaddingCannotBeToldFromData : Prop :=
  ∀ (cph : Cipher) (key : Block) (d : Bytes) (j : Nat), ceil16 (d.length + j) = ceil16 d.length →
    encrypt cph key (d ++ List.replicate j 0x00) = encrypt cph key d

/-! ## The Frame Codec -/

/-- R122, R123, R70: the five steps of the builder give exactly the frame image of R70, whatever the two placeholder bytes
hold; the unit answers its ciphertext. The equality of the two forms is the spec's own derivation (R71, R123). -/
def Obligations.BuilderGivesTheFrameImage : Prop :=
  ∀ (content : Bytes) (x y : Byte), content.length ≤ 251 →
    (∀ (cph : Cipher) (cfg : Config),
      buildFrame cph cfg (content ++ [x, y]) = .ok (encrypt cph cfg.key (frameImage content))) ∧
    ∀ s : State, exec (.buildFrame (content ++ [x, y])) s =
      .next { s with out := .bytes (encrypt Config.cipher s.cfg.key (frameImage content)) }

/-- R124 (derived by the spec from R122, R106, R115): what the enciphered buffer `B` of a built frame looks like. -/
def Obligations.BuiltFramePlaintextProperties : Prop :=
  ∀ (cph : Cipher) (cfg : Config) (body : Bytes), 2 ≤ body.length → body.length ≤ 253 →
    ∃ f B : Bytes, buildFrame cph cfg body = .ok f ∧ f = encrypt cph cfg.key B ∧ decrypt cph cfg.key f = .ok B ∧
      B[0]? = some 0xFE ∧ (∃ l, B[1]? = some l ∧ l.toNat = body.length + 2) ∧
      (B.take body.length).drop 2 = body.take (body.length - 2) ∧
      (∃ lo hi, B[body.length]? = some lo ∧ B[body.length + 1]? = some hi ∧
        lo.toNat + 256 * hi.toNat = (crc16 (B.take body.length)).toNat) ∧
      (∀ j, body.length + 2 ≤ j → j < B.length → B[j]? = some 0x00) ∧
      B.length = ceil16 (body.length + 2) ∧
      crc16 (B.take (body.length + 2)) = 0

/-- R121 (the spec's decision D4), R208: outside 2 to 253 bytes the build is refused; inside it answers a frame of
`ceil16(len + 2)` bytes. -/
def Obligations.BuildFrameDomain : Prop :=
  ∀ (s : State) (body : Bytes),
    (body.length < 2 ∨ 253 < body.length → exec (.buildFrame body) s = .refused .bodyLength) ∧
    (2 ≤ body.length → body.length ≤ 253 → ∃ f, f.length = ceil16 (body.length + 2) ∧
      exec (.buildFrame body) s = .next { s with out := .bytes f })

/-- R131 (derived by the spec): a frame the builder makes is parsed back, trailer check or not, to the plaintext that was
enciphered, whose byte 2 is the body's first byte, or the low CRC byte when the body has two bytes. -/
def Obligations.ParserAcceptsBuiltFrames : Prop :=
  ∀ (cph : Cipher) (cfg : Config) (body : Bytes), 2 ≤ body.length → body.length ≤ 253 →
    ∃ f B op, buildFrame cph cfg body = .ok f ∧ f = encrypt cph cfg.key B ∧ decrypt cph cfg.key f = .ok B ∧
      parseFrame cph cfg f = .ok (B, op) ∧ B[2]? = some op ∧
      (3 ≤ body.length → body[0]? = some op) ∧ (body.length = 2 → op = lo8 (crc16 [0xFE, 0x04]))

/-- R126, R129, R130 (the order of checks is the spec's decision D7, the CRC check D5 and D35): what `PARSE_FRAME` answers on
the ciphertext of any whole-block plaintext, and on a ragged ciphertext. -/
def Obligations.ParseFrameAnswersInCheckOrder : Prop :=
  (∀ (s : State) (p : Bytes), p.length % 16 = 0 →
    exec (.parseFrame (encrypt Config.cipher s.cfg.key p)) s = .next { s with out :=
      match p[0]?, p[2]? with
      | some m, some op =>
        if m ≠ 0xFE then .error (.protocolError .badMarker)
        else if s.cfg.verifyRxCrc = true ∧ lengthByteGood p = false then .error (.formatError .tooShort)
        else if s.cfg.verifyRxCrc = true ∧ trailerGood p = false then .error (.protocolError .badCrc)
        else .parsed p op
      | _, _ => .error (.formatError .tooShort) }) ∧
  ∀ (s : State) (c : Bytes), c.length % 16 ≠ 0 →
    exec (.parseFrame c) s = .next { s with out := .error (.formatError .badCipherLength) }

/-! ## The Acknowledgment Builder -/

/-- R140, R141: the body is the ack head and the CRC of `FE 09` and the head; fewer than 7 bytes are refused (the spec's
decision D7). -/
def Obligations.BuildAckEchoesTheHead : Prop :=
  ∀ (s : State) (p : Bytes),
    (p.length < 7 → exec (.buildAck p) s = .refused .tooShort) ∧
    ∀ h0 h1 h2 h3 h4 : Byte, p[2]? = some h0 → p[3]? = some h1 → p[4]? = some h2 → p[5]? = some h3 → p[6]? = some h4 →
      exec (.buildAck p) s = .next { s with
        out := .bytes [h0, h1, h2, h3, h4, lo8 (crc16 [0xFE, 0x09, h0, h1, h2, h3, h4]),
          hi8 (crc16 [0xFE, 0x09, h0, h1, h2, h3, h4])] }

/-- R142 (derived by the spec): the two framing stages agree with the single image of R77, for every buffer with an ack head. -/
def Obligations.AckDoubleFramingYieldsTheAckBuffer : Prop :=
  ∀ (cph : Cipher) (cfg : Config) (p : Bytes), 7 ≤ p.length →
    ackFrame cph cfg p = .ok (encrypt cph cfg.key (ackImage ((p.drop 2).take 5))) ∧
    (ackImage ((p.drop 2).take 5)).length = 16

/-- R76, R77, R78 and R173, R143, R190: the three outbound frames are the ciphertexts of the printed layouts; `SYNC_REQ` is
refused when it is configured away. The layouts are the spec's derivations and decision D22; that these operations answer
their frame without sending it is log 14. -/
def Obligations.OutboundFramesHaveTheirLayouts : Prop :=
  ∀ (s : State) (a : Addr) (h : FiveBytes),
    exec (.ident a) s = .next { s with out := .bytes (encrypt Config.cipher s.cfg.key (identImage a)) } ∧
    exec (.ack h) s = .next { s with
      out := .bytes (encrypt Config.cipher s.cfg.key (ackImage [h.h0, h.h1, h.h2, h.h3, h.h4])) } ∧
    (s.cfg.hasSync = true → exec .syncReq s = .next { s with
      out := .bytes (encrypt Config.cipher s.cfg.key (syncImage s.cfg.syncHdr)) }) ∧
    (s.cfg.hasSync = false → exec .syncReq s = .refused .noSync)

/-! ## The Cube State Model -/

/-- R150: byte `k` gives nibble `2k` from its low half and nibble `2k + 1` from its high half. -/
def Obligations.UnpackEmitsLowNibbleFirst : Prop :=
  ∀ (s : State) (b : Bytes), ∃ q : List Nibble, exec (.unpack b) s = .next { s with out := .nibbles q } ∧
    q.length = 2 * b.length ∧
    ∀ (k : Nat) (x : Byte), b[k]? = some x →
      q[2 * k]? = some (x.extractLsb' 0 4) ∧ q[2 * k + 1]? = some (x.extractLsb' 4 4)

/-- R152 (derived by the spec from R150): byte `k` is `q[2k] | (q[2k+1] << 4)`; other lengths are refused. -/
def Obligations.PackJoinsPairsOrRefuses : Prop :=
  ∀ (s : State) (q : List Nibble),
    (q.length = 54 → ∃ b : Bytes, exec (.pack q) s = .next { s with out := .bytes b } ∧ b.length = 27 ∧
      ∀ (k : Nat) (lo hi : Nibble), q[2 * k]? = some lo → q[2 * k + 1]? = some hi →
        b[k]? = some (lo.setWidth 8 ||| (hi.setWidth 8 <<< 4))) ∧
    (q.length ≠ 54 → exec (.pack q) s = .refused .badLength)

/-- R153 (derived by the spec): packing and unpacking undo each other. -/
def Obligations.PackAndUnpackAreInverse : Prop :=
  (∀ q : List Nibble, q.length = 54 → ∃ b, pack q = .ok b ∧ unpack b = q) ∧
  ∀ b : Bytes, b.length = 27 → pack (unpack b) = .ok b

/-- R154, R156: the comparator answers true on the one constant and on nothing else; one changed facelet makes it false. -/
def Obligations.ComparatorAcceptsOnlyTheConstant : Prop :=
  (∀ (s : State) (q : List Nibble),
    exec (.isSolved q) s = .next { s with out := .flag (decide (q = solvedImage)) }) ∧
  ∀ (s : State) (i : Nat) (v w : Nibble), solvedImage[i]? = some w → v ≠ w →
    exec (.isSolved (solvedImage.set i v)) s = .next { s with out := .flag false }

/-- R157, R158 (the refusal is the spec's decision D11): the letters by the table, the empty string off length 54, a refusal
when some nibble has no letter. -/
def Obligations.LettersFollowTheTable : Prop :=
  ∀ (s : State) (q : List Nibble),
    (q.length ≠ 54 → exec (.toNotation q) s = .next { s with out := .letters [] }) ∧
    (q.length = 54 → (∀ c ∈ q, c.toNat ≤ 5) → ∃ ls : List Char,
      exec (.toNotation q) s = .next { s with out := .letters ls } ∧ ls.length = 54 ∧
      ∀ (i : Nat) (c : Nibble), q[i]? = some c → ls[i]? = ['L', 'R', 'D', 'U', 'F', 'B'][c.toNat]?) ∧
    (q.length = 54 → (∃ c ∈ q, 5 < c.toNat) → exec (.toNotation q) s = .refused .badColour)

/-- R159 (derived by the spec from the literals of R151 and R157): the two tables, kept apart, pair faces and letters the same
way, so the solved cube reads nine times each face letter in the face order. -/
def Obligations.ColourTablesAgreeOnTheFaces : Prop :=
  (∀ f < 6, ∃ c, faceColor[f]? = some c ∧ colorLetters[c.toNat]? = ['U', 'R', 'F', 'D', 'L', 'B'][f]?) ∧
  toNotation solved = .ok (['U', 'R', 'F', 'D', 'L', 'B'].flatMap (List.replicate 9))

/-- R160: codes 0 to 5 are U, D, L, R, F, B; any other code has no label. -/
def Obligations.MoveCodesHaveSixLabels : Prop :=
  ∀ (s : State) (m : Byte), exec (.moveLabel m) s = .next { s with
    out := .label (if m = 0 then some .U else if m = 1 then some .D else if m = 2 then some .L else if m = 3 then some .R
     else if m = 4 then some .F else if m = 5 then some .B else none) }

/-! ## The messages -/

/-- R178, with R55, R77, R79, R185 for what it calls: the whole effect of an accepted `HELLO`, given as the message or through
`DISPATCH`. -/
def Obligations.HelloWritesReportsAndAcknowledges : Prop :=
  ∀ (s : State) (p : Bytes) (batt : Byte), s.fsm ≠ .disconnected → matchesRow 0x02 36 p = true →
    trailerAccepted s.cfg p = true → p[35]? = some batt →
    exec (.hello p) s = .next { s with
      cube := faceletsOf p
      battery := some batt
      evt := s.evt ++ [.stateUpdated (faceletsOf p) (some batt)] ++ edgeEvent s.wasSolved (faceletsOf p)
      wasSolved := decide (faceletsOf p = solvedImage)
      txq := s.txq ++ [encrypt Config.cipher s.cfg.key (ackImage ((p.drop 2).take 5))]
      fsm := .streaming } ∧
    exec (.dispatch p) s = exec (.hello p) s

/-- R180, with R79, R160, R182, R185 for what it calls: the whole effect of an accepted `MOVE`; a code above 5 adds no label and
no event, the flag at 91 decides on the acknowledgment. -/
def Obligations.MoveWritesLogsAndMayAcknowledge : Prop :=
  ∀ (s : State) (p : Bytes) (batt : Byte), s.fsm ≠ .disconnected → matchesRow 0x03 36 p = true →
    trailerAccepted s.cfg p = true → p[35]? = some batt →
    exec (.move p) s = .next { s with
      cube := faceletsOf p
      battery := some batt
      moves := s.moves ++ (loggedBy p).toList
      evt := s.evt ++ [.stateUpdated (faceletsOf p) (some batt)] ++ (loggedBy p).toList.map .moveRecognized ++
        edgeEvent s.wasSolved (faceletsOf p)
      wasSolved := decide (faceletsOf p = solvedImage)
      txq := s.txq ++
        (if ∃ b ∈ p[91]?, ackPred s.cfg b = true then
          [encrypt Config.cipher s.cfg.key (ackImage ((p.drop 2).take 5))] else [])
      fsm := .streaming } ∧
    exec (.dispatch p) s = exec (.move p) s

/-- R183, with R79, R185 for what it calls: the whole effect of an accepted `SYNC_ECHO`; battery, move log and outbound queue
stay (conflict C3). -/
def Obligations.SyncEchoWritesTheCubeOnly : Prop :=
  ∀ (s : State) (p : Bytes), s.fsm ≠ .disconnected → matchesRow 0x04 34 p = true → trailerAccepted s.cfg p = true →
    exec (.syncEcho p) s = .next { s with
      cube := faceletsOf p
      evt := s.evt ++ [.stateUpdated (faceletsOf p) s.battery] ++ edgeEvent s.wasSolved (faceletsOf p)
      wasSolved := decide (faceletsOf p = solvedImage)
      fsm := .streaming } ∧
    exec (.dispatch p) s = exec (.syncEcho p) s

/-- R174, R176 (the spec's decisions D19, D20): in `Disconnected` `DISPATCH` of a plaintext has no effect. That `HELLO`, `MOVE`
and `SYNC_ECHO` given as operations discard there too, where the preconditions of R178, R180 and R183 do not hold, is the
model's choice (log 13). -/
def Obligations.DisconnectedDiscardsEveryMessage : Prop :=
  ∀ (s : State) (p : Bytes), s.fsm = .disconnected →
    exec (.dispatch p) s = .next s ∧ exec (.hello p) s = .next s ∧ exec (.move p) s = .next s ∧
      exec (.syncEcho p) s = .next s

/-- R206, R184, R130 (observability is the spec's decision D26): `DISPATCH` of a plaintext that is not an accepted frame changes
nothing. That `HELLO`, `MOVE` and `SYNC_ECHO` given as operations drop it too, outside the preconditions of R178, R180 and
R183, is the model's choice (log 13). -/
def Obligations.DroppedFrameChangesNothing : Prop :=
  ∀ (s : State) (p : Bytes), acceptedFrame s.cfg p = false →
    exec (.dispatch p) s = .next s ∧ exec (.hello p) s = .next s ∧ exec (.move p) s = .next s ∧
      exec (.syncEcho p) s = .next s

/-- The model's choice (log 13), outside the preconditions of R178, R180 and R183: in a live session, `HELLO`, `MOVE` and
`SYNC_ECHO` given an accepted frame of another row are refused. -/
def Obligations.MessageOfAnotherRowIsRefused : Prop :=
  ∀ (s : State) (p : Bytes), s.fsm ≠ .disconnected → acceptedFrame s.cfg p = true →
    (matchesRow 0x02 36 p = false → exec (.hello p) s = .refused .notThisMessage) ∧
    (matchesRow 0x03 36 p = false → exec (.move p) s = .refused .notThisMessage) ∧
    (matchesRow 0x04 34 p = false → exec (.syncEcho p) s = .refused .notThisMessage)

/-- R182 (the default predicate is the spec's decision D8): `ACK_PRED(0x00)` is false under every configuration, and every
predicate with that property is some configuration's. -/
def Obligations.AckPredicateIsFreeButForZero : Prop :=
  (∀ cfg : Config, ackPred cfg 0x00 = false) ∧
  ∀ (cfg : Config) (f : Byte → Bool), f 0x00 = false → ∃ t : BitVec 256, ∀ b, ackPred { cfg with ackTrue := t } b = f b

/-- R53, R63, R127 (the spec's decision D6): under the default `VERIFY_RX_CRC = false`, two plaintexts of one length that agree
on the bytes some rule reads (`readOffset`) have the same effect; the length byte, the trailer, the padding and every field
the opcode does not have do not matter. -/
def Obligations.UnreadBytesDoNotMatter : Prop :=
  ∀ (s : State) (p p' : Bytes), s.cfg.verifyRxCrc = false → p.length = p'.length →
    (∀ j, readOffset s.cfg p j → p[j]? = p'[j]?) →
    exec (.dispatch p) s = exec (.dispatch p') s

/-! ## The session -/

/-- R172, R173 (the spec's decision D18): `CONNECT` starts a fresh session and queues `IDENT`; while a session is live it is
refused. -/
def Obligations.ConnectStartsAFreshSession : Prop :=
  ∀ (s : State) (a : Addr),
    (s.fsm = .disconnected → exec (.connect a) s = .next { s with
      cube := []
      battery := none
      moves := []
      wasSolved := false
      txq := s.txq ++ [encrypt Config.cipher s.cfg.key (identImage a)]
      fsm := .handshaking }) ∧
    (s.fsm ≠ .disconnected → exec (.connect a) s = .refused .alreadyConnected)

/-- R174 (the spec's decisions D19, D20): a delivered buffer is queued unread, or discarded in `Disconnected`. -/
def Obligations.DeliverQueuesOrDiscards : Prop :=
  ∀ (s : State) (c : Bytes),
    (s.fsm ≠ .disconnected → exec (.deliver c) s = .next { s with rxq := s.rxq ++ [c] }) ∧
    (s.fsm = .disconnected → exec (.deliver c) s = .next s)

/-- R175: `RX` takes the oldest buffer; a ragged one is dropped and nothing else changes, any other is deciphered and
dispatched. -/
def Obligations.RxTakesTheOldestBuffer : Prop :=
  ∀ (s : State) (rest : List Bytes),
    (∀ c, s.rxq = c :: rest → c.length % 16 ≠ 0 → exec .rx s = .next { s with rxq := rest }) ∧
    (∀ p, p.length % 16 = 0 → s.rxq = encrypt Config.cipher s.cfg.key p :: rest →
      exec .rx s = exec (.dispatch p) { s with rxq := rest })

/-- R175, R206, with R178, R180, R183 for the messages: `RX` on a queued buffer always answers. Either the head is gone and
nothing else changed, or the step is `DISPATCH` of the plaintext of an accepted frame in the state without the head; the
last two clauses say which, and what that frame then changes. -/
def Obligations.RxCompletesAndIsPrecise : Prop :=
  ∀ (s : State) (c : Bytes) (rest : List Bytes), s.rxq = c :: rest →
    (∃ t, exec .rx s = .next t ∧ (t = { s with rxq := rest } ∨
      ∃ p, c = encrypt Config.cipher s.cfg.key p ∧ p.length % 16 = 0 ∧ s.fsm ≠ .disconnected ∧
        acceptedFrame s.cfg p = true ∧ exec (.dispatch p) { s with rxq := rest } = .next t)) ∧
    ((c.length % 16 ≠ 0 ∨ s.fsm = .disconnected ∨ ∃ p, c = encrypt Config.cipher s.cfg.key p ∧ p.length % 16 = 0 ∧
        acceptedFrame s.cfg p = false) →
      exec .rx s = .next { s with rxq := rest }) ∧
    ∀ p, c = encrypt Config.cipher s.cfg.key p → p.length % 16 = 0 → s.fsm ≠ .disconnected →
      acceptedFrame s.cfg p = true →
      exec .rx s = .next { s with
        rxq := rest
        cube := faceletsOf p
        battery := (batteryBy p).or s.battery
        moves := s.moves ++ (loggedBy p).toList
        evt := s.evt ++ [.stateUpdated (faceletsOf p) ((batteryBy p).or s.battery)] ++
          (loggedBy p).toList.map .moveRecognized ++ edgeEvent s.wasSolved (faceletsOf p)
        wasSolved := decide (faceletsOf p = solvedImage)
        txq := s.txq ++ acksFor s.cfg p
        fsm := .streaming }

/-- R191 (the queue discipline is the spec's decision D17): `TX_DONE` removes the head of `txq` and changes nothing else. -/
def Obligations.TxDoneRemovesTheHead : Prop :=
  ∀ (s : State) (f : Bytes) (rest : List Bytes), s.txq = f :: rest → exec .txDone s = .next { s with txq := rest }

/-- The model's choice (log 9) where R175 and R191 do not enable a step: `RX` with nothing queued and `TX_DONE` with nothing
to write are refused; in particular `RX` is refused in every `Disconnected` state that meets the invariant (R174). -/
def Obligations.StepsThatAreNotEnabledAreRefused : Prop :=
  ∀ s : State,
    (s.rxq = [] → exec .rx s = .refused .rxqEmpty) ∧ (s.txq = [] → exec .txDone s = .refused .txqEmpty) ∧
    (Inv s → s.fsm = .disconnected → exec .rx s = .refused .rxqEmpty ∧ exec .txDone s = .refused .txqEmpty)

/-- R190 (layout, trigger and domain are the spec's decision D22): the frame of R78 is queued and nothing else changes; refused
when configured away or in `Disconnected`, the first test first. -/
def Obligations.RequestSyncQueuesTheSyncFrame : Prop :=
  ∀ s : State,
    (s.cfg.hasSync = true → s.fsm ≠ .disconnected → exec .requestSync s =
      .next { s with txq := s.txq ++ [encrypt Config.cipher s.cfg.key (syncImage s.cfg.syncHdr)] }) ∧
    (s.cfg.hasSync = true → s.fsm = .disconnected → exec .requestSync s = .refused .notConnected) ∧
    (s.cfg.hasSync = false → exec .requestSync s = .refused .noSync)

/-- R188, R189 (the spec's decision D19): both end the session, emptying the queues and keeping the Session registers; a
transport failure is also told to the host; neither has an effect in `Disconnected`. -/
def Obligations.SessionEndKeepsTheRegisters : Prop :=
  ∀ s : State,
    (s.fsm ≠ .disconnected →
      exec .teardown s = .next { s with rxq := [], txq := [], fsm := .disconnected } ∧
      exec .transportError s = .next
        { s with rxq := [], txq := [], fsm := .disconnected, evt := s.evt ++ [.error .transportError] }) ∧
    (s.fsm = .disconnected → exec .teardown s = .next s ∧ exec .transportError s = .next s)

/-! ## Rules over all operations -/

/-- R171: no operation changes `fsm` but as the table of R171 has it (D18, D19, D23 are the spec's decisions behind it). -/
def Obligations.FsmMovesOnlyByTheTable : Prop :=
  ∀ (i : Instr) (s t : State), exec i s = .next t → fsmMay i s.fsm t.fsm

/-- R36: the event port is append only; R39: the configuration is written by nobody. The script is the model's own (log 1). -/
def Obligations.EventsOnlyGrowAndConfigurationStays : Prop :=
  ∀ (i : Instr) (s t : State), exec i s = .next t → s.evt <+: t.evt ∧ t.cfg = s.cfg ∧ t.script = s.script

/-- R24, R27: no operation but `CONNECT` removes or changes an element of the move log, and each adds at most one label. -/
def Obligations.MoveLogOnlyGrowsInASession : Prop :=
  ∀ (i : Instr) (s t : State), exec i s = .next t → (∀ a, i ≠ .connect a) →
    ∃ ls : List MoveLabel, t.moves = s.moves ++ ls ∧ ls.length ≤ 1

/-- R33, R35, R66: both queues are first-in first-out: an operation appends one entry at the tail, or removes the head, or, at
the end of a session, empties the queue. -/
def Obligations.QueuesAreFirstInFirstOut : Prop :=
  ∀ (i : Instr) (s t : State), exec i s = .next t →
    (t.rxq = s.rxq ∨ (∃ c, i = .deliver c ∧ t.rxq = s.rxq ++ [c]) ∨ (∃ c, i = .rx ∧ s.rxq = c :: t.rxq) ∨
      ((i = .teardown ∨ i = .transportError) ∧ t.rxq = [])) ∧
    ((∃ fs, t.txq = s.txq ++ fs ∧ fs.length ≤ 1) ∨ (∃ f, i = .txDone ∧ s.txq = f :: t.txq) ∨
      ((i = .teardown ∨ i = .transportError) ∧ t.txq = []))

/-- R39, R215: outside the message handlers and `CONNECT` nobody writes a Session register; the transport's `DELIVER` and
`TX_DONE` leave `fsm` and the event port alone as well. -/
def Obligations.SessionIsOwnedByTheProtocol : Prop :=
  ∀ (i : Instr) (s t : State), exec i s = .next t →
    (issuer i ≠ .block → (∀ a, i ≠ .connect a) → sameSession s t) ∧
    ((i = .txDone ∨ ∃ c, i = .deliver c) → t.fsm = s.fsm ∧ t.evt = s.evt)

/-- R100, R112, R113, R122, R125, R144, R150 ("Writes: nothing"): a unit's answer is the only thing it changes, and no other
operation touches the result port. The port is the model's own (log 2), and that `IDENT`, `ACK` and `SYNC_REQ` as operations
only answer their frame is the model's choice (log 14). -/
def Obligations.UnitsWriteNothingButTheirAnswer : Prop :=
  ∀ (i : Instr) (s t : State), exec i s = .next t →
    (issuer i = .unit → t = { s with out := t.out }) ∧ (issuer i ≠ .unit → t.out = s.out)

/-- R62, R201: no operation, in any state, reads or writes outside a buffer; a step never ends in a fault. -/
def Obligations.NoAccessOutsideABuffer : Prop :=
  (∀ (i : Instr) (s : State) (f : Fault), exec i s ≠ .fault f) ∧ ∀ (s : State) (f : Fault), step s ≠ .fault f

/-- R66: delivering to a live session and processing what is already queued can be done in either order. -/
def Obligations.DeliveryCommutesWithProcessing : Prop :=
  ∀ (s : State) (c : Bytes), s.fsm ≠ .disconnected → s.rxq ≠ [] →
    ∃ t, runAll [.deliver c, .rx] s = .next t ∧ runAll [.rx, .deliver c] s = .next t

/-- R66, R235: buffers delivered together and then processed leave the state that delivering and processing them one at a time
leaves, in arrival order. -/
def Obligations.BuffersAreProcessedInArrivalOrder : Prop :=
  ∀ (s : State) (cs : List Bytes), s.fsm ≠ .disconnected → s.rxq = [] →
    ∃ t, runAll (cs.map .deliver ++ List.replicate cs.length .rx) s = .next t ∧ runAll (deliverEach cs) s = .next t

/-- R185: over any run of accepted frames the number of `SOLVED_EDGE` events is the number of changes from not solved to
solved, and the flag ends as the last frame left it. (The initial value of the flag is the spec's decision D15; here it is
any.) -/
def Obligations.SolvedEdgesCountTheRises : Prop :=
  ∀ (s : State) (ps : List Bytes), s.fsm ≠ .disconnected → (∀ p ∈ ps, acceptedFrame s.cfg p = true) →
    ∃ t, runAll (ps.map .dispatch) s = .next t ∧
      edgeCount t.evt =
        edgeCount s.evt + rises s.wasSolved (ps.map fun p => decide (faceletsOf p = solvedImage)) ∧
      t.wasSolved = ((ps.map fun p => decide (faceletsOf p = solvedImage)).getLast?).getD s.wasSolved

/-- R22 to R24, R181, R186: over any run of accepted frames the move log gains the in-range codes in order, the battery is the
last one brought, the cube is the last frame's, and the outbound queue gains the acknowledgments called for, in order. -/
def Obligations.RunOfFramesGathersItsFields : Prop :=
  ∀ (s : State) (ps : List Bytes), s.fsm ≠ .disconnected → (∀ p ∈ ps, acceptedFrame s.cfg p = true) →
    ∃ t, runAll (ps.map .dispatch) s = .next t ∧
      t.moves = s.moves ++ ps.filterMap loggedBy ∧
      t.battery = ((ps.filterMap batteryBy).getLast?).or s.battery ∧
      t.cube = ((ps.map faceletsOf).getLast?).getD s.cube ∧
      t.txq = s.txq ++ ps.flatMap (acksFor s.cfg)

/-! ## The machine -/

/-- R40, R230 (every value is the spec's own choice, D27, log 7): what reset leaves, the configuration at R8's defaults (the
model's choice, log 5) with the free key (log 4), the model's own two fields empty (log 1, log 2), and that the machine is
idle after it (R41, R232; log 10). -/
def Obligations.ResetIsDisconnectedAndIdle : Prop :=
  State.reset.fsm = .disconnected ∧ State.reset.cube = [] ∧ State.reset.battery = none ∧ State.reset.moves = [] ∧
  State.reset.wasSolved = false ∧ State.reset.rxq = [] ∧ State.reset.txq = [] ∧ State.reset.evt = [] ∧
  State.reset.cfg.key = Config.deviceKey ∧ (∀ b, ackPred State.reset.cfg b = (b != 0x00)) ∧
  State.reset.cfg.verifyRxCrc = false ∧ State.reset.cfg.hasSync = true ∧
  State.reset.cfg.syncHdr = ⟨0x04, 0x00, 0x00, 0x00, 0x00⟩ ∧
  State.reset.script = [] ∧ State.reset.out = .none ∧
  step State.reset = .next State.reset

/-- R27 and log 7: the reset state meets the invariant. -/
def Obligations.ResetMeetsTheInvariant : Prop := Inv State.reset

/-- R27, with R36, R172 to R191 (derived by the spec): every step, of any operation in any order, keeps the invariant. -/
def Obligations.EveryStepKeepsTheInvariant : Prop :=
  ∀ s t : State, Inv s → step s = .next t → Inv t

/-- R85, R170, R193, R206 (how an operation comes to run is the model's choice, log 1, log 10 and log 11): a step runs the
operation the script's next entry decodes to, the script moved past it; a dropped inbound frame and a line with no operation
are passed over, the script moved past them; any other entry is refused with the decoder's reason; with the script over the
step is `RX` while something is queued, and else leaves the state. -/
def Obligations.StepRunsTheDecodedOperation : Prop :=
  ∀ s : State,
    (∀ it rest i, s.script = it :: rest → decode it = .ok i → step s = exec i { s with script := rest }) ∧
    (∀ it rest e, s.script = it :: rest → decode it = .error e → (e = .blankLine ∨ ∃ b, e = .dropped b) →
      step s = .next { s with script := rest }) ∧
    (∀ it rest e, s.script = it :: rest → decode it = .error e → e ≠ .blankLine → (∀ b, e ≠ .dropped b) →
      step s = .refused (.undecodable e)) ∧
    (∀ c q, s.script = [] → s.rxq = c :: q → step s = exec .rx s) ∧
    (s.script = [] → s.rxq = [] → step s = .next s)

/-- R80, R83, R85 and log 11: for every operation, with every operand, what the encoder writes is decoded as it. -/
def Obligations.DecodeInvertsEncode : Prop :=
  ∀ i : Instr, i.wf = true → decode (encode i) = .ok i

/-- R80, R83 (the table's format is the spec's decision D33): the decoder yields well-formed operations only. -/
def Obligations.DecodedOperationsAreWellFormed : Prop :=
  ∀ (it : Item) (i : Instr), decode it = .ok i → i.wf = true

/-- R80, R176: the opcode map of the decoder and the dispatcher agree: what decodes is run as that message, once the trailer
is accepted, and what is turned away is dropped. In `Disconnected`, outside the preconditions of R178, R180 and R183, that the
message discards as `DISPATCH` does is the model's choice (log 13). -/
def Obligations.DispatcherFollowsTheOpcodeMap : Prop :=
  ∀ (s : State) (p : Bytes),
    (∀ i, decode (.frame .inbound p) = .ok i → trailerAccepted s.cfg p = true →
      exec (.dispatch p) s = exec i s) ∧
    (∀ e, decode (.frame .inbound p) = .error e → exec (.dispatch p) s = .next s)

/-- R73 to R78, R85: words written out from the layouts decode to the operations they stand for. By R83's masks `FE 09 02` and
`FE 24 04` also begin a `HELLO` and a `SYNC_ECHO`: that as words of the table they are read as the outbound rows `ACK` and
`SYNC_REQ`, and that zeros follow a word, is the model's choice (log 12). -/
def Obligations.SampleWordsDecode : Prop :=
  decodeTableWord 24 0xFE0002 = some (.hello ([0xFE, 0x00, 0x02] ++ List.replicate 93 0x00)) ∧
  decodeTableWord 24 0xFE5E03 = some (.move ([0xFE, 0x5E, 0x03] ++ List.replicate 93 0x00)) ∧
  decodeTableWord 24 0xFE0004 = some (.syncEcho ([0xFE, 0x00, 0x04] ++ List.replicate 93 0x00)) ∧
  decodeTableWord 24 0xFE1500 = some (.ident ⟨0, 0, 0, 0, 0, 0⟩) ∧
  decodeTableWord 24 0xFE0902 = some (.ack ⟨0x02, 0, 0, 0, 0⟩) ∧
  decodeTableWord 24 0xFE2404 = some .syncReq ∧
  decodeTableWord 24 0xFE0005 = none ∧
  decode (.line ['D', 'E', 'L', 'I', 'V', 'E', 'R', ' ', 'F', 'E', ' ', '0', '9']) = .ok (.deliver [0xFE, 0x09])
end

