-- ==== Sys2Proof/Laws/State.lean ====
section
/-! SUPPORT. One lemma per field per update of State, each true by unfolding, so that no later proof unfolds an update. -/

namespace Sys2Proof.Machine

/-! ### `State.setFsm` -/

@[simp] theorem State.setFsm_fsm (s : State) (f : Fsm) : (s.setFsm f).fsm = f := rfl
@[simp] theorem State.setFsm_cube (s : State) (f : Fsm) : (s.setFsm f).cube = s.cube := rfl
@[simp] theorem State.setFsm_battery (s : State) (f : Fsm) : (s.setFsm f).battery = s.battery := rfl
@[simp] theorem State.setFsm_moves (s : State) (f : Fsm) : (s.setFsm f).moves = s.moves := rfl
@[simp] theorem State.setFsm_wasSolved (s : State) (f : Fsm) : (s.setFsm f).wasSolved = s.wasSolved := rfl
@[simp] theorem State.setFsm_rxq (s : State) (f : Fsm) : (s.setFsm f).rxq = s.rxq := rfl
@[simp] theorem State.setFsm_txq (s : State) (f : Fsm) : (s.setFsm f).txq = s.txq := rfl
@[simp] theorem State.setFsm_evt (s : State) (f : Fsm) : (s.setFsm f).evt = s.evt := rfl
@[simp] theorem State.setFsm_cfg (s : State) (f : Fsm) : (s.setFsm f).cfg = s.cfg := rfl
@[simp] theorem State.setFsm_script (s : State) (f : Fsm) : (s.setFsm f).script = s.script := rfl
@[simp] theorem State.setFsm_out (s : State) (f : Fsm) : (s.setFsm f).out = s.out := rfl

/-! ### `State.writeCube` -/

@[simp] theorem State.writeCube_fsm (s : State) (q : List Nibble) : (s.writeCube q).fsm = s.fsm := rfl
@[simp] theorem State.writeCube_cube (s : State) (q : List Nibble) : (s.writeCube q).cube = q := rfl
@[simp] theorem State.writeCube_battery (s : State) (q : List Nibble) : (s.writeCube q).battery = s.battery := rfl
@[simp] theorem State.writeCube_moves (s : State) (q : List Nibble) : (s.writeCube q).moves = s.moves := rfl
@[simp] theorem State.writeCube_wasSolved (s : State) (q : List Nibble) : (s.writeCube q).wasSolved = s.wasSolved := rfl
@[simp] theorem State.writeCube_rxq (s : State) (q : List Nibble) : (s.writeCube q).rxq = s.rxq := rfl
@[simp] theorem State.writeCube_txq (s : State) (q : List Nibble) : (s.writeCube q).txq = s.txq := rfl
@[simp] theorem State.writeCube_evt (s : State) (q : List Nibble) : (s.writeCube q).evt = s.evt := rfl
@[simp] theorem State.writeCube_cfg (s : State) (q : List Nibble) : (s.writeCube q).cfg = s.cfg := rfl
@[simp] theorem State.writeCube_script (s : State) (q : List Nibble) : (s.writeCube q).script = s.script := rfl
@[simp] theorem State.writeCube_out (s : State) (q : List Nibble) : (s.writeCube q).out = s.out := rfl

/-! ### `State.writeBattery` -/

@[simp] theorem State.writeBattery_fsm (s : State) (b : Byte) : (s.writeBattery b).fsm = s.fsm := rfl
@[simp] theorem State.writeBattery_cube (s : State) (b : Byte) : (s.writeBattery b).cube = s.cube := rfl
@[simp] theorem State.writeBattery_battery (s : State) (b : Byte) : (s.writeBattery b).battery = some b := rfl
@[simp] theorem State.writeBattery_moves (s : State) (b : Byte) : (s.writeBattery b).moves = s.moves := rfl
@[simp] theorem State.writeBattery_wasSolved (s : State) (b : Byte) : (s.writeBattery b).wasSolved = s.wasSolved := rfl
@[simp] theorem State.writeBattery_rxq (s : State) (b : Byte) : (s.writeBattery b).rxq = s.rxq := rfl
@[simp] theorem State.writeBattery_txq (s : State) (b : Byte) : (s.writeBattery b).txq = s.txq := rfl
@[simp] theorem State.writeBattery_evt (s : State) (b : Byte) : (s.writeBattery b).evt = s.evt := rfl
@[simp] theorem State.writeBattery_cfg (s : State) (b : Byte) : (s.writeBattery b).cfg = s.cfg := rfl
@[simp] theorem State.writeBattery_script (s : State) (b : Byte) : (s.writeBattery b).script = s.script := rfl
@[simp] theorem State.writeBattery_out (s : State) (b : Byte) : (s.writeBattery b).out = s.out := rfl

/-! ### `State.logMove` -/

@[simp] theorem State.logMove_fsm (s : State) (l : MoveLabel) : (s.logMove l).fsm = s.fsm := rfl
@[simp] theorem State.logMove_cube (s : State) (l : MoveLabel) : (s.logMove l).cube = s.cube := rfl
@[simp] theorem State.logMove_battery (s : State) (l : MoveLabel) : (s.logMove l).battery = s.battery := rfl
@[simp] theorem State.logMove_moves (s : State) (l : MoveLabel) : (s.logMove l).moves = s.moves ++ [l] := rfl
@[simp] theorem State.logMove_wasSolved (s : State) (l : MoveLabel) : (s.logMove l).wasSolved = s.wasSolved := rfl
@[simp] theorem State.logMove_rxq (s : State) (l : MoveLabel) : (s.logMove l).rxq = s.rxq := rfl
@[simp] theorem State.logMove_txq (s : State) (l : MoveLabel) : (s.logMove l).txq = s.txq := rfl
@[simp] theorem State.logMove_evt (s : State) (l : MoveLabel) : (s.logMove l).evt = s.evt := rfl
@[simp] theorem State.logMove_cfg (s : State) (l : MoveLabel) : (s.logMove l).cfg = s.cfg := rfl
@[simp] theorem State.logMove_script (s : State) (l : MoveLabel) : (s.logMove l).script = s.script := rfl
@[simp] theorem State.logMove_out (s : State) (l : MoveLabel) : (s.logMove l).out = s.out := rfl

/-! ### `State.writeSolved` -/

@[simp] theorem State.writeSolved_fsm (s : State) (b : Bool) : (s.writeSolved b).fsm = s.fsm := rfl
@[simp] theorem State.writeSolved_cube (s : State) (b : Bool) : (s.writeSolved b).cube = s.cube := rfl
@[simp] theorem State.writeSolved_battery (s : State) (b : Bool) : (s.writeSolved b).battery = s.battery := rfl
@[simp] theorem State.writeSolved_moves (s : State) (b : Bool) : (s.writeSolved b).moves = s.moves := rfl
@[simp] theorem State.writeSolved_wasSolved (s : State) (b : Bool) : (s.writeSolved b).wasSolved = b := rfl
@[simp] theorem State.writeSolved_rxq (s : State) (b : Bool) : (s.writeSolved b).rxq = s.rxq := rfl
@[simp] theorem State.writeSolved_txq (s : State) (b : Bool) : (s.writeSolved b).txq = s.txq := rfl
@[simp] theorem State.writeSolved_evt (s : State) (b : Bool) : (s.writeSolved b).evt = s.evt := rfl
@[simp] theorem State.writeSolved_cfg (s : State) (b : Bool) : (s.writeSolved b).cfg = s.cfg := rfl
@[simp] theorem State.writeSolved_script (s : State) (b : Bool) : (s.writeSolved b).script = s.script := rfl
@[simp] theorem State.writeSolved_out (s : State) (b : Bool) : (s.writeSolved b).out = s.out := rfl

/-! ### `State.setRxq` -/

@[simp] theorem State.setRxq_fsm (s : State) (q : List Bytes) : (s.setRxq q).fsm = s.fsm := rfl
@[simp] theorem State.setRxq_cube (s : State) (q : List Bytes) : (s.setRxq q).cube = s.cube := rfl
@[simp] theorem State.setRxq_battery (s : State) (q : List Bytes) : (s.setRxq q).battery = s.battery := rfl
@[simp] theorem State.setRxq_moves (s : State) (q : List Bytes) : (s.setRxq q).moves = s.moves := rfl
@[simp] theorem State.setRxq_wasSolved (s : State) (q : List Bytes) : (s.setRxq q).wasSolved = s.wasSolved := rfl
@[simp] theorem State.setRxq_rxq (s : State) (q : List Bytes) : (s.setRxq q).rxq = q := rfl
@[simp] theorem State.setRxq_txq (s : State) (q : List Bytes) : (s.setRxq q).txq = s.txq := rfl
@[simp] theorem State.setRxq_evt (s : State) (q : List Bytes) : (s.setRxq q).evt = s.evt := rfl
@[simp] theorem State.setRxq_cfg (s : State) (q : List Bytes) : (s.setRxq q).cfg = s.cfg := rfl
@[simp] theorem State.setRxq_script (s : State) (q : List Bytes) : (s.setRxq q).script = s.script := rfl
@[simp] theorem State.setRxq_out (s : State) (q : List Bytes) : (s.setRxq q).out = s.out := rfl

/-! ### `State.setTxq` -/

@[simp] theorem State.setTxq_fsm (s : State) (q : List Bytes) : (s.setTxq q).fsm = s.fsm := rfl
@[simp] theorem State.setTxq_cube (s : State) (q : List Bytes) : (s.setTxq q).cube = s.cube := rfl
@[simp] theorem State.setTxq_battery (s : State) (q : List Bytes) : (s.setTxq q).battery = s.battery := rfl
@[simp] theorem State.setTxq_moves (s : State) (q : List Bytes) : (s.setTxq q).moves = s.moves := rfl
@[simp] theorem State.setTxq_wasSolved (s : State) (q : List Bytes) : (s.setTxq q).wasSolved = s.wasSolved := rfl
@[simp] theorem State.setTxq_rxq (s : State) (q : List Bytes) : (s.setTxq q).rxq = s.rxq := rfl
@[simp] theorem State.setTxq_txq (s : State) (q : List Bytes) : (s.setTxq q).txq = q := rfl
@[simp] theorem State.setTxq_evt (s : State) (q : List Bytes) : (s.setTxq q).evt = s.evt := rfl
@[simp] theorem State.setTxq_cfg (s : State) (q : List Bytes) : (s.setTxq q).cfg = s.cfg := rfl
@[simp] theorem State.setTxq_script (s : State) (q : List Bytes) : (s.setTxq q).script = s.script := rfl
@[simp] theorem State.setTxq_out (s : State) (q : List Bytes) : (s.setTxq q).out = s.out := rfl

/-! ### `State.send` -/

@[simp] theorem State.send_fsm (s : State) (f : Bytes) : (s.send f).fsm = s.fsm := rfl
@[simp] theorem State.send_cube (s : State) (f : Bytes) : (s.send f).cube = s.cube := rfl
@[simp] theorem State.send_battery (s : State) (f : Bytes) : (s.send f).battery = s.battery := rfl
@[simp] theorem State.send_moves (s : State) (f : Bytes) : (s.send f).moves = s.moves := rfl
@[simp] theorem State.send_wasSolved (s : State) (f : Bytes) : (s.send f).wasSolved = s.wasSolved := rfl
@[simp] theorem State.send_rxq (s : State) (f : Bytes) : (s.send f).rxq = s.rxq := rfl
@[simp] theorem State.send_txq (s : State) (f : Bytes) : (s.send f).txq = s.txq ++ [f] := rfl
@[simp] theorem State.send_evt (s : State) (f : Bytes) : (s.send f).evt = s.evt := rfl
@[simp] theorem State.send_cfg (s : State) (f : Bytes) : (s.send f).cfg = s.cfg := rfl
@[simp] theorem State.send_script (s : State) (f : Bytes) : (s.send f).script = s.script := rfl
@[simp] theorem State.send_out (s : State) (f : Bytes) : (s.send f).out = s.out := rfl

/-! ### `State.emit` -/

@[simp] theorem State.emit_fsm (s : State) (e : Event) : (s.emit e).fsm = s.fsm := rfl
@[simp] theorem State.emit_cube (s : State) (e : Event) : (s.emit e).cube = s.cube := rfl
@[simp] theorem State.emit_battery (s : State) (e : Event) : (s.emit e).battery = s.battery := rfl
@[simp] theorem State.emit_moves (s : State) (e : Event) : (s.emit e).moves = s.moves := rfl
@[simp] theorem State.emit_wasSolved (s : State) (e : Event) : (s.emit e).wasSolved = s.wasSolved := rfl
@[simp] theorem State.emit_rxq (s : State) (e : Event) : (s.emit e).rxq = s.rxq := rfl
@[simp] theorem State.emit_txq (s : State) (e : Event) : (s.emit e).txq = s.txq := rfl
@[simp] theorem State.emit_evt (s : State) (e : Event) : (s.emit e).evt = s.evt ++ [e] := rfl
@[simp] theorem State.emit_cfg (s : State) (e : Event) : (s.emit e).cfg = s.cfg := rfl
@[simp] theorem State.emit_script (s : State) (e : Event) : (s.emit e).script = s.script := rfl
@[simp] theorem State.emit_out (s : State) (e : Event) : (s.emit e).out = s.out := rfl

/-! ### `State.setOut` -/

@[simp] theorem State.setOut_fsm (s : State) (r : FuncResult) : (s.setOut r).fsm = s.fsm := rfl
@[simp] theorem State.setOut_cube (s : State) (r : FuncResult) : (s.setOut r).cube = s.cube := rfl
@[simp] theorem State.setOut_battery (s : State) (r : FuncResult) : (s.setOut r).battery = s.battery := rfl
@[simp] theorem State.setOut_moves (s : State) (r : FuncResult) : (s.setOut r).moves = s.moves := rfl
@[simp] theorem State.setOut_wasSolved (s : State) (r : FuncResult) : (s.setOut r).wasSolved = s.wasSolved := rfl
@[simp] theorem State.setOut_rxq (s : State) (r : FuncResult) : (s.setOut r).rxq = s.rxq := rfl
@[simp] theorem State.setOut_txq (s : State) (r : FuncResult) : (s.setOut r).txq = s.txq := rfl
@[simp] theorem State.setOut_evt (s : State) (r : FuncResult) : (s.setOut r).evt = s.evt := rfl
@[simp] theorem State.setOut_cfg (s : State) (r : FuncResult) : (s.setOut r).cfg = s.cfg := rfl
@[simp] theorem State.setOut_script (s : State) (r : FuncResult) : (s.setOut r).script = s.script := rfl
@[simp] theorem State.setOut_out (s : State) (r : FuncResult) : (s.setOut r).out = r := rfl

/-! ### `State.setScript` -/

@[simp] theorem State.setScript_fsm (s : State) (l : List Item) : (s.setScript l).fsm = s.fsm := rfl
@[simp] theorem State.setScript_cube (s : State) (l : List Item) : (s.setScript l).cube = s.cube := rfl
@[simp] theorem State.setScript_battery (s : State) (l : List Item) : (s.setScript l).battery = s.battery := rfl
@[simp] theorem State.setScript_moves (s : State) (l : List Item) : (s.setScript l).moves = s.moves := rfl
@[simp] theorem State.setScript_wasSolved (s : State) (l : List Item) : (s.setScript l).wasSolved = s.wasSolved := rfl
@[simp] theorem State.setScript_rxq (s : State) (l : List Item) : (s.setScript l).rxq = s.rxq := rfl
@[simp] theorem State.setScript_txq (s : State) (l : List Item) : (s.setScript l).txq = s.txq := rfl
@[simp] theorem State.setScript_evt (s : State) (l : List Item) : (s.setScript l).evt = s.evt := rfl
@[simp] theorem State.setScript_cfg (s : State) (l : List Item) : (s.setScript l).cfg = s.cfg := rfl
@[simp] theorem State.setScript_script (s : State) (l : List Item) : (s.setScript l).script = l := rfl
@[simp] theorem State.setScript_out (s : State) (l : List Item) : (s.setScript l).out = s.out := rfl

/-! ### `State.newSession` -/

@[simp] theorem State.newSession_fsm (s : State) : s.newSession.fsm = s.fsm := rfl
@[simp] theorem State.newSession_cube (s : State) : s.newSession.cube = [] := rfl
@[simp] theorem State.newSession_battery (s : State) : s.newSession.battery = none := rfl
@[simp] theorem State.newSession_moves (s : State) : s.newSession.moves = [] := rfl
@[simp] theorem State.newSession_wasSolved (s : State) : s.newSession.wasSolved = false := rfl
@[simp] theorem State.newSession_rxq (s : State) : s.newSession.rxq = s.rxq := rfl
@[simp] theorem State.newSession_txq (s : State) : s.newSession.txq = s.txq := rfl
@[simp] theorem State.newSession_evt (s : State) : s.newSession.evt = s.evt := rfl
@[simp] theorem State.newSession_cfg (s : State) : s.newSession.cfg = s.cfg := rfl
@[simp] theorem State.newSession_script (s : State) : s.newSession.script = s.script := rfl
@[simp] theorem State.newSession_out (s : State) : s.newSession.out = s.out := rfl

/-! ### `State.endSession` -/

@[simp] theorem State.endSession_fsm (s : State) : s.endSession.fsm = .disconnected := rfl
@[simp] theorem State.endSession_cube (s : State) : s.endSession.cube = s.cube := rfl
@[simp] theorem State.endSession_battery (s : State) : s.endSession.battery = s.battery := rfl
@[simp] theorem State.endSession_moves (s : State) : s.endSession.moves = s.moves := rfl
@[simp] theorem State.endSession_wasSolved (s : State) : s.endSession.wasSolved = s.wasSolved := rfl
@[simp] theorem State.endSession_rxq (s : State) : s.endSession.rxq = [] := rfl
@[simp] theorem State.endSession_txq (s : State) : s.endSession.txq = [] := rfl
@[simp] theorem State.endSession_evt (s : State) : s.endSession.evt = s.evt := rfl
@[simp] theorem State.endSession_cfg (s : State) : s.endSession.cfg = s.cfg := rfl
@[simp] theorem State.endSession_script (s : State) : s.endSession.script = s.script := rfl
@[simp] theorem State.endSession_out (s : State) : s.endSession.out = s.out := rfl

/-! ### The reset state (R40) -/

@[simp] theorem State.reset_fsm : State.reset.fsm = .disconnected := rfl
@[simp] theorem State.reset_cube : State.reset.cube = [] := rfl
@[simp] theorem State.reset_battery : State.reset.battery = none := rfl
@[simp] theorem State.reset_moves : State.reset.moves = [] := rfl
@[simp] theorem State.reset_wasSolved : State.reset.wasSolved = false := rfl
@[simp] theorem State.reset_rxq : State.reset.rxq = [] := rfl
@[simp] theorem State.reset_txq : State.reset.txq = [] := rfl
@[simp] theorem State.reset_evt : State.reset.evt = [] := rfl
@[simp] theorem State.reset_cfg : State.reset.cfg = resetConfig := rfl
@[simp] theorem State.reset_script : State.reset.script = [] := rfl
@[simp] theorem State.reset_out : State.reset.out = .none := rfl

/-! ### `solvedEval` (R185) -/

@[simp] theorem solvedEval_fsm (s : State) : (solvedEval s).fsm = s.fsm := by
  unfold solvedEval; split <;> simp
@[simp] theorem solvedEval_cube (s : State) : (solvedEval s).cube = s.cube := by
  unfold solvedEval; split <;> simp
@[simp] theorem solvedEval_battery (s : State) : (solvedEval s).battery = s.battery := by
  unfold solvedEval; split <;> simp
@[simp] theorem solvedEval_moves (s : State) : (solvedEval s).moves = s.moves := by
  unfold solvedEval; split <;> simp
@[simp] theorem solvedEval_wasSolved (s : State) : (solvedEval s).wasSolved = isSolved s.cube := by
  unfold solvedEval; split <;> simp
@[simp] theorem solvedEval_rxq (s : State) : (solvedEval s).rxq = s.rxq := by
  unfold solvedEval; split <;> simp
@[simp] theorem solvedEval_txq (s : State) : (solvedEval s).txq = s.txq := by
  unfold solvedEval; split <;> simp
@[simp] theorem solvedEval_evt (s : State) :
    (solvedEval s).evt = s.evt ++ (if solvedRises s then [.solvedEdge] else []) := by
  unfold solvedEval; split <;> simp
@[simp] theorem solvedEval_cfg (s : State) : (solvedEval s).cfg = s.cfg := by
  unfold solvedEval; split <;> simp
@[simp] theorem solvedEval_script (s : State) : (solvedEval s).script = s.script := by
  unfold solvedEval; split <;> simp
@[simp] theorem solvedEval_out (s : State) : (solvedEval s).out = s.out := by
  unfold solvedEval; split <;> simp

end Sys2Proof.Machine
end

