-- ==== Sys2Proof/Laws/Ops.lean ====
section
/-! SUPPORT. What the shared operations can do: one lemma per primitive, for the provers to cite instead of unfolding. -/

namespace Sys2Proof.Machine

variable {α β : Type}

/-! ## Computations -/

@[simp] theorem Res.bind_ok (a : α) (f : α → Res β) : (Res.ok a).bind f = f a := rfl

@[simp] theorem Res.bind_raised (e : BlockError) (f : α → Res β) : (Res.raised e).bind f = .raised e := rfl

@[simp] theorem Res.bind_refused (r : Refusal) (f : α → Res β) : (Res.refused r).bind f = .refused r := rfl

@[simp] theorem Res.bind_fault (g : Fault) (f : α → Res β) : (Res.fault g).bind f = .fault g := rfl

@[simp] theorem Res.map_ok (f : α → β) (a : α) : (Res.ok a).map f = .ok (f a) := rfl

@[simp] theorem Res.map_raised (f : α → β) (e : BlockError) : (Res.raised e).map f = .raised e := rfl

@[simp] theorem Res.map_refused (f : α → β) (r : Refusal) : (Res.refused r).map f = .refused r := rfl

@[simp] theorem Res.map_fault (f : α → β) (g : Fault) : (Res.fault g).map f = .fault g := rfl

/-- A computation answers a value exactly when both its parts do. -/
theorem Res.bind_eq_ok {x : Res α} {f : α → Res β} {b : β} :
    x.bind f = .ok b ↔ ∃ a, x = .ok a ∧ f a = .ok b := by
  cases x <;> simp

theorem Res.map_eq_ok {x : Res α} {f : α → β} {b : β} : x.map f = .ok b ↔ ∃ a, x = .ok a ∧ f a = b := by
  cases x <;> simp

@[simp] theorem raiseFormat_eq (c : FormatCause) : (raiseFormat c : Res α) = .raised (.formatError c) := rfl

@[simp] theorem raiseProtocol_eq (c : ProtocolCause) : (raiseProtocol c : Res α) = .raised (.protocolError c) := rfl

/-! ## The buffers -/

/-- `MemRead` inside the buffer (R11). -/
theorem memRead_inside {p : Bytes} {addr n : Nat} (h : addr + n ≤ p.length) :
    memRead p addr n = .ok ((p.drop addr).take n) := by
  simp [memRead, h]

theorem memRead_eq_ok {p v : Bytes} {addr n : Nat} :
    memRead p addr n = .ok v ↔ addr + n ≤ p.length ∧ v = (p.drop addr).take n := by
  unfold memRead; split <;> simp_all [eq_comm]

/-- `MemRead` of one byte inside the buffer (R11). -/
theorem memReadByte_inside {p : Bytes} {addr : Nat} (h : addr < p.length) : memReadByte p addr = .ok p[addr] := by
  simp [memReadByte, h]

theorem memReadByte_eq_ok {p : Bytes} {addr : Nat} {b : Byte} : memReadByte p addr = .ok b ↔ p[addr]? = some b := by
  unfold memReadByte; cases p[addr]? <;> simp

/-- `MemWrite` inside the buffer (R11). -/
theorem memWrite_inside {b v : Bytes} {addr : Nat} (h : addr + v.length ≤ b.length) :
    memWrite b addr v = .ok (b.take addr ++ v ++ b.drop (addr + v.length)) := by
  simp [memWrite, h]

/-- `MemWrite` keeps the length of the buffer. -/
theorem memWrite_length {b v b' : Bytes} {addr : Nat} (h : memWrite b addr v = .ok b') : b'.length = b.length := by
  unfold memWrite at h
  split at h
  · next hle => injection h with h; subst h; simp; omega
  · cases h

/-- A write over a piece of the buffer given by its parts. -/
theorem memWrite_mid {x y v z : Bytes} {addr : Nat} (hx : addr = x.length) (hy : y.length = v.length) :
    memWrite (x ++ y ++ z) addr v = .ok (x ++ v ++ z) := by
  subst hx
  rw [memWrite_inside (by simp [hy])]
  simp [List.append_assoc, ← hy, List.drop_append]

/-! ## How a step ends -/

@[simp] theorem recover_ok (b s : State) : recover b (.ok s) = .next s := rfl

@[simp] theorem recover_raised (b : State) (e : BlockError) : recover b (.raised e) = .next b := rfl

@[simp] theorem recover_refused (b : State) (r : Refusal) : recover b (.refused r) = .refused r := rfl

@[simp] theorem recover_fault (b : State) (f : Fault) : recover b (.fault f) = .fault f := rfl

/-- Everything `recover` can do when it answers: the computation's state, or the state before it (R206). -/
theorem recover_next {b t : State} {r : Res State} (h : recover b r = .next t) :
    r = .ok t ∨ (∃ e, r = .raised e) ∧ t = b := by
  cases r <;> simp_all [recover, eq_comm]

@[simp] theorem answer_ok (s : State) (v : FuncResult) : answer s (.ok v) = .next (s.setOut v) := rfl

@[simp] theorem answer_raised (s : State) (e : BlockError) : answer s (.raised e) = .next (s.setOut (.error e)) := rfl

@[simp] theorem answer_refused (s : State) (r : Refusal) : answer s (.refused r) = .refused r := rfl

@[simp] theorem answer_fault (s : State) (f : Fault) : answer s (.fault f) = .fault f := rfl

/-- Everything `answer` can do when it answers: the result port is written and nothing else (R86). -/
theorem answer_next {s t : State} {r : Res FuncResult} (h : answer s r = .next t) : ∃ v, t = s.setOut v := by
  cases r <;> simp_all [answer, eq_comm]

/-! ## Bytes -/

@[simp] theorem zeros_length (n : Nat) : (zeros n).length = n := by simp [zeros]

@[simp] theorem zeros_zero : zeros 0 = [] := rfl

@[simp] theorem zeros_append (m n : Nat) : zeros m ++ zeros n = zeros (m + n) := by
  simp [zeros]

@[simp] theorem crcBytes_length (c : Word16) : (crcBytes c).length = 2 := rfl

@[simp] theorem fiveBytes_length (h : FiveBytes) : (fiveBytes h).length = 5 := rfl

@[simp] theorem reversedAddr_length (a : Addr) : (reversedAddr a).length = 6 := rfl

/-- `ceil16(n)` is the least multiple of 16 that is at least `n` (R10). -/
theorem ceil16_spec (n : Nat) : n ≤ ceil16 n ∧ ceil16 n < n + 16 ∧ ceil16 n % 16 = 0 := by
  unfold ceil16 blockSize; omega

theorem ceil16_of_mul {n : Nat} (h : n % 16 = 0) : ceil16 n = n := by
  unfold ceil16 blockSize; omega

theorem ceil16_div (n : Nat) : ceil16 n / 16 * 16 = ceil16 n := by
  unfold ceil16 blockSize; omega

end Sys2Proof.Machine
end

