-- ==== Sys2Proof/Laws/Cipher.lean ====
section
/-! SUPPORT. Blocks and byte strings, and what `mapBlocks`, `encrypt` and `decrypt` answer. -/

namespace Sys2Proof.Machine

@[simp] theorem blockBytes_length (b : Block) : (blockBytes b).length = 16 := by simp [blockBytes]

/-- 16 bytes make a block and the block gives them back. -/
theorem blockBytes_blockOf {s : Bytes} (h : s.length = 16) : blockBytes (blockOf s) = s := by
  simp [blockBytes, blockOf, ← h]

@[simp] theorem blockOf_blockBytes (b : Block) : blockOf (blockBytes b) = b := by
  obtain ⟨⟨l⟩, h⟩ := b
  have h : l.length = 16 := h
  simp [blockBytes, blockOf, ← h]

@[simp] theorem mapBlocks_length (f : Block → Block) (n : Nat) (s : Bytes) : (mapBlocks f n s).length = 16 * n := by
  induction n generalizing s with
  | zero => rfl
  | succ n ih => simp [mapBlocks, ih]; omega

/-- `mapBlocks` on a string that begins with a whole block. -/
theorem mapBlocks_cons (f : Block → Block) (n : Nat) (b : Block) (s : Bytes) :
    mapBlocks f (n + 1) (blockBytes b ++ s) = blockBytes (f b) ++ mapBlocks f n s := by
  simp [mapBlocks, blockSize]

/-- `mapBlocks` on a string made of whole blocks. -/
theorem mapBlocks_flatMap (f : Block → Block) (bs : List Block) :
    mapBlocks f bs.length (bs.flatMap blockBytes) = bs.flatMap fun b => blockBytes (f b) := by
  induction bs with
  | nil => rfl
  | cons b bs ih => simp [mapBlocks_cons, ih]

/-- A string whose length is a multiple of 16 is made of whole blocks. -/
theorem exists_blocks {s : Bytes} {n : Nat} (h : s.length = 16 * n) :
    ∃ bs : List Block, bs.length = n ∧ bs.flatMap blockBytes = s := by
  induction n generalizing s with
  | zero => exact ⟨[], rfl, (List.length_eq_zero_iff.mp h).symm⟩
  | succ n ih =>
    obtain ⟨bs, hn, hs⟩ := ih (s := s.drop 16) (by simp; omega)
    refine ⟨blockOf (s.take 16) :: bs, by simp [hn], ?_⟩
    simp only [List.flatMap_cons, hs]
    rw [blockBytes_blockOf (by simp; omega), List.take_append_drop]

@[simp] theorem padTo16_length (s : Bytes) : (padTo16 s).length = ceil16 s.length := by
  have := ceil16_spec s.length
  simp [padTo16]; omega

/-- Deciphering block by block undoes enciphering block by block (R111). -/
theorem mapBlocks_cancel (e : Equiv.Perm Block) {n : Nat} {s : Bytes} (h : s.length = 16 * n) :
    mapBlocks e.symm n (mapBlocks e n s) = s := by
  obtain ⟨bs, hn, rfl⟩ := exists_blocks h
  subst hn
  rw [mapBlocks_flatMap]
  have := mapBlocks_flatMap e.symm (bs.map e)
  simp only [List.length_map, List.flatMap_map] at this
  simpa using this

@[simp] theorem encrypt_length (cph : Cipher) (key : Block) (s : Bytes) :
    (encrypt cph key s).length = ceil16 s.length := by
  have := ceil16_div s.length
  simp [encrypt, blockSize]; omega

/-- `DECRYPT` on a length that is a multiple of 16 (R113). -/
theorem decrypt_whole {cph : Cipher} {key : Block} {c : Bytes} (h : c.length % 16 = 0) :
    decrypt cph key c = .ok (mapBlocks (cph key).symm (c.length / 16) c) := by
  simp [decrypt, blockSize, h]

/-- `DECRYPT` on any other length (R114). -/
theorem decrypt_ragged {cph : Cipher} {key : Block} {c : Bytes} (h : c.length % 16 ≠ 0) :
    decrypt cph key c = .raised (.formatError .badCipherLength) := by
  simp [decrypt, blockSize, h]

/-- Everything `DECRYPT` can answer (R113, R114). -/
theorem decrypt_cases (cph : Cipher) (key : Block) (c : Bytes) :
    (c.length % 16 = 0 ∧ ∃ p, decrypt cph key c = .ok p ∧ p.length = c.length) ∨
    (c.length % 16 ≠ 0 ∧ decrypt cph key c = .raised (.formatError .badCipherLength)) := by
  by_cases h : c.length % 16 = 0
  · exact .inl ⟨h, _, decrypt_whole h, by simp; omega⟩
  · exact .inr ⟨h, decrypt_ragged h⟩

/-- `DECRYPT` of what `ENCRYPT` made of a string that needs no padding. -/
theorem decrypt_encrypt_whole {cph : Cipher} {key : Block} {p : Bytes} (h : p.length % 16 = 0) :
    decrypt cph key (encrypt cph key p) = .ok p := by
  have hc := ceil16_of_mul h
  rw [decrypt_whole (by simp [hc, h])]
  have he : encrypt cph key p = mapBlocks (cph key) (p.length / 16) p := by
    simp [encrypt, padTo16, hc, blockSize]
  rw [encrypt_length, hc, he, mapBlocks_cancel _ (by omega)]

/-- Every whole-block string is the ciphertext of a whole-block plaintext (R111). -/
theorem exists_plaintext (cph : Cipher) (key : Block) {c : Bytes} (h : c.length % 16 = 0) :
    ∃ p, p.length = c.length ∧ c = encrypt cph key p := by
  have hp : 16 * (c.length / 16) = c.length := by omega
  refine ⟨mapBlocks (cph key).symm (c.length / 16) c, by simp [hp], ?_⟩
  have := mapBlocks_cancel (cph key).symm (n := c.length / 16) (s := c) (by omega)
  simpa [encrypt, padTo16, ceil16_of_mul h, hp, blockSize, zeros] using this.symm

end Sys2Proof.Machine
end

