-- ==== Sys2Proof/Laws/Frame.lean ====
section
/-! SUPPORT. What the frame builder, the parser and the acknowledgment builder answer. -/

namespace Sys2Proof.Machine

/-! ## Building -/

/-- The build buffer after step 4 of R122, written out. -/
def builtBuffer (body : Bytes) : Bytes :=
  let head := [marker, lenByte (body.length + 2)] ++ body.take (body.length - 2)
  head ++ crcBytes (crc16 head) ++ zeros (ceil16 (body.length + 2) - (body.length + 2))

theorem builtBuffer_length {body : Bytes} (h : 2 ≤ body.length) :
    (builtBuffer body).length = ceil16 (body.length + 2) := by
  have := ceil16_spec (body.length + 2)
  simp [builtBuffer]; omega

/-- The five steps of R122 leave the buffer written out in `builtBuffer`: the CRC lands on the body's last two bytes (R123). -/
theorem framePlain_inside {body : Bytes} (h2 : 2 ≤ body.length) (h253 : body.length ≤ 253) :
    framePlain body = .ok (builtBuffer body) := by
  obtain ⟨content, x, y, rfl⟩ : ∃ c x y, body = c ++ [x, y] := by
    have hd : (body.drop (body.length - 2)).length = 2 := by simp; omega
    obtain ⟨x, y, hxy⟩ := List.length_eq_two.mp hd
    exact ⟨body.take (body.length - 2), x, y, by rw [← hxy, List.take_append_drop]⟩
  have hlen : (content ++ [x, y]).length = content.length + 2 := by simp
  rw [hlen] at h2 h253
  set k := ceil16 (content.length + 4) - (content.length + 4) with hk
  have hc := ceil16_spec (content.length + 4)
  have hz : zeros (ceil16 (content.length + 4)) = [0] ++ [0] ++ (zeros content.length ++ [0, 0] ++ zeros k) := by
    rw [show ceil16 (content.length + 4) = 1 + (1 + (content.length + (1 + (1 + k)))) by omega]
    simp [zeros, List.replicate_add]
  have e1 : memWrite (zeros (ceil16 (content.length + 4))) 0 [marker] =
      .ok ([marker] ++ [0] ++ (zeros content.length ++ [0, 0] ++ zeros k)) := by
    rw [hz, List.append_assoc, List.append_assoc]
    exact memWrite_mid (x := []) (y := [0]) (v := [marker]) rfl rfl
  have e2 : memWrite ([marker] ++ [0] ++ (zeros content.length ++ [0, 0] ++ zeros k)) 1
      [lenByte (content.length + 4)] =
      .ok ([marker, lenByte (content.length + 4)] ++ (zeros content.length ++ [0, 0]) ++ zeros k) := by
    rw [memWrite_mid (by rfl) (by rfl)]; simp
  have e3 : memWrite ([marker, lenByte (content.length + 4)] ++ (zeros content.length ++ [0, 0]) ++ zeros k) 2
      (content ++ [x, y]) =
      .ok ([marker, lenByte (content.length + 4)] ++ (content ++ [x, y]) ++ zeros k) :=
    memWrite_mid (by rfl) (by simp)
  have e4 (c : Byte) : memWrite ([marker, lenByte (content.length + 4)] ++ (content ++ [x, y]) ++ zeros k)
      (content.length + 2) [c] =
      .ok ([marker, lenByte (content.length + 4)] ++ content ++ [c, y] ++ zeros k) := by
    have := memWrite_mid (x := [marker, lenByte (content.length + 4)] ++ content) (y := [x]) (v := [c])
      (z := [y] ++ zeros k) (addr := content.length + 2) (by simp) rfl
    simpa using this
  have e5 (c d : Byte) : memWrite ([marker, lenByte (content.length + 4)] ++ content ++ [c, y] ++ zeros k)
      (content.length + 3) [d] =
      .ok ([marker, lenByte (content.length + 4)] ++ content ++ [c, d] ++ zeros k) := by
    have := memWrite_mid (x := [marker, lenByte (content.length + 4)] ++ content ++ [c]) (y := [y]) (v := [d])
      (z := zeros k) (addr := content.length + 3) (by simp) rfl
    simpa using this
  have ht : ([marker, lenByte (content.length + 4)] ++ (content ++ [x, y]) ++ zeros k).take (content.length + 2) =
      [marker, lenByte (content.length + 4)] ++ content := by
    simp
  unfold framePlain
  rw [if_neg (by rw [hlen]; omega)]
  simp only [hlen, offMarker, offLen, offOpcode, e1, e2, e3, Res.bind_ok,
    show content.length + 2 + 2 = content.length + 4 by omega, ht,
    show content.length + 4 - 1 = content.length + 3 by omega, e4, e5,
    show content.length + 4 - 2 = content.length + 2 by omega]
  simp only [builtBuffer, hlen, Nat.add_sub_cancel, List.take_left', crcBytes,
    show content.length + 2 + 2 = content.length + 4 by omega, ← hk]

theorem framePlain_outside {body : Bytes} (h : body.length < 2 ∨ 253 < body.length) :
    framePlain body = .refused .bodyLength := by
  unfold framePlain; rw [if_pos h]

/-- Everything `BUILD_FRAME` can answer (R121, R122). -/
theorem buildFrame_cases (cph : Cipher) (cfg : Config) (body : Bytes) :
    (2 ≤ body.length ∧ body.length ≤ 253 ∧
      buildFrame cph cfg body = .ok (encrypt cph cfg.key (builtBuffer body))) ∨
    ((body.length < 2 ∨ 253 < body.length) ∧ buildFrame cph cfg body = .refused .bodyLength) := by
  by_cases h : body.length < 2 ∨ 253 < body.length
  · exact .inr ⟨h, by simp [buildFrame, framePlain_outside h]⟩
  · exact .inl ⟨by omega, by omega, by
      simp [buildFrame, framePlain_inside (body := body) (by omega) (by omega)]⟩

theorem buildFrame_inside (cph : Cipher) (cfg : Config) {body : Bytes} (h2 : 2 ≤ body.length)
    (h253 : body.length ≤ 253) : buildFrame cph cfg body = .ok (encrypt cph cfg.key (builtBuffer body)) := by
  simp [buildFrame, framePlain_inside h2 h253]

/-! ## Acknowledgments -/

theorem ackBody_of_five {h : Bytes} (hl : h.length = 5) :
    ackBody h = h ++ crcBytes (crc16 ([marker, ackLen] ++ h)) := by
  simp [ackBody, hl, List.take_of_length_le]

theorem buildAck_inside {p : Bytes} (h : 7 ≤ p.length) :
    buildAck p = .ok (ackBody ((p.drop 2).take 5)) := by
  simp [buildAck, memRead, offAckHead, ackHeadLen, h, Nat.not_lt.mpr h]

/-- The acknowledgment of a buffer that has an ack head is always built (R143, R186). -/
theorem sendAck_inside (cph : Cipher) {p : Bytes} (h : 7 ≤ p.length) (s : State) :
    sendAck cph p s =
      .ok (s.send (encrypt cph s.cfg.key (builtBuffer (ackBody ((p.drop 2).take 5))))) := by
  have hl : ((p.drop 2).take 5).length = 5 := by simp; omega
  have hb : (ackBody ((p.drop 2).take 5)).length = 7 := by simp [ackBody_of_five hl, hl]
  simp [sendAck, ackFrame, buildAck_inside h, buildFrame_inside cph s.cfg (body := ackBody ((p.drop 2).take 5))
    (by omega) (by omega)]

/-! ## Parsing -/

/-- What `CHECK_CRC` demands of a plaintext (R129), as one condition. -/
theorem checkCrc_cases {p : Bytes} (h : 3 ≤ p.length) :
    checkCrc p =
      if p[1].toNat < 4 ∨ p.length < p[1].toNat then .raised (.formatError .tooShort)
      else if p[p[1].toNat - 2]? = some (lo8 (crc16 (p.take (p[1].toNat - 2)))) ∧
          p[p[1].toNat - 1]? = some (hi8 (crc16 (p.take (p[1].toNat - 2)))) then .ok ()
      else .raised (.protocolError .badCrc) := by
  unfold checkCrc
  rw [show memReadByte p offLen = .ok p[1] from memReadByte_inside (addr := 1) (by omega), Res.bind_ok]
  by_cases hb : p[1].toNat < 4 ∨ p.length < p[1].toNat
  · rw [if_pos hb, if_pos hb]; rfl
  · rw [if_neg hb, if_neg hb]
    rw [memRead_inside (by omega), Res.bind_ok, memReadByte_inside (by omega), Res.bind_ok,
      memReadByte_inside (by omega), Res.bind_ok]
    rw [List.getElem?_eq_getElem (by omega), List.getElem?_eq_getElem (by omega)]
    simp only [List.drop_zero, Option.some.injEq]
    split <;> split <;> first | rfl | (exfalso; simp_all)

/-- Everything `PARSE_PLAIN` can answer, in the order of R130. -/
theorem parsePlain_cases (cfg : Config) (p : Bytes) :
    (p.length < 1 ∧ parsePlain cfg p = .raised (.formatError .tooShort)) ∨
    (∃ h : 1 ≤ p.length, p[0] ≠ marker ∧ parsePlain cfg p = .raised (.protocolError .badMarker)) ∨
    (∃ h : 1 ≤ p.length, p[0] = marker ∧ p.length < 3 ∧ parsePlain cfg p = .raised (.formatError .tooShort)) ∨
    (∃ h : 3 ≤ p.length, p[0] = marker ∧
      parsePlain cfg p = (if cfg.verifyRxCrc then checkCrc p else .ok ()).map fun _ => (p, p[2])) := by
  by_cases h1 : p.length < 1
  · exact .inl ⟨h1, by simp [parsePlain, checkMarker, h1]⟩
  · have h1' : 1 ≤ p.length := by omega
    have hm : checkMarker p = if p[0] ≠ marker then .raised (.protocolError .badMarker) else .ok () := by
      simp [checkMarker, h1, offMarker, memReadByte_inside (show 0 < p.length by omega)]
    by_cases h0 : p[0] = marker
    · by_cases h3 : p.length < 3
      · exact .inr (.inr (.inl ⟨h1', h0, h3, by simp [parsePlain, hm, h0, h3]⟩))
      · refine .inr (.inr (.inr ⟨by omega, h0, ?_⟩))
        simp [parsePlain, hm, h0, h3, offOpcode, memReadByte_inside (show 2 < p.length by omega), Res.map]
    · exact .inr (.inl ⟨h1', h0, by simp [parsePlain, hm, h0]⟩)

end Sys2Proof.Machine
end

