-- ==== Sys2Proof/Laws/PerInstr.lean ====
section
/-! SUPPORT. Statements about every constructor of `Instr`, one lemma each. -/

namespace Sys2Proof.Laws.EncodeForm

/-- An operation is written in the form its row of the opcode table has (R83): a call, an inbound or an outbound frame, or a
line of a script. -/
def Statement (i : Instr) : Prop := (encode i).format = i.format

theorem crc16 (s : Bytes) : Statement (.crc16 s) := rfl
theorem crcStep (r : Word16) (b : Byte) : Statement (.crcStep r b) := rfl
theorem encrypt (d : Bytes) : Statement (.encrypt d) := rfl
theorem decrypt (c : Bytes) : Statement (.decrypt c) := rfl
theorem buildFrame (body : Bytes) : Statement (.buildFrame body) := rfl
theorem parseFrame (c : Bytes) : Statement (.parseFrame c) := rfl
theorem buildAck (p : Bytes) : Statement (.buildAck p) := rfl
theorem unpack (s : Bytes) : Statement (.unpack s) := rfl
theorem pack (q : List Nibble) : Statement (.pack q) := rfl
theorem isSolved (q : List Nibble) : Statement (.isSolved q) := rfl
theorem toNotation (q : List Nibble) : Statement (.toNotation q) := rfl
theorem moveLabel (m : Byte) : Statement (.moveLabel m) := rfl
theorem hello (p : Bytes) : Statement (.hello p) := rfl
theorem move (p : Bytes) : Statement (.move p) := rfl
theorem syncEcho (p : Bytes) : Statement (.syncEcho p) := rfl
theorem ident (a : Addr) : Statement (.ident a) := rfl
theorem ack (h : FiveBytes) : Statement (.ack h) := rfl
theorem syncReq : Statement (.syncReq) := rfl
theorem connect (a : Addr) : Statement (.connect a) := rfl
theorem rx : Statement (.rx) := rfl
theorem dispatch (p : Bytes) : Statement (.dispatch p) := rfl
theorem txDone : Statement (.txDone) := rfl
theorem requestSync : Statement (.requestSync) := rfl
theorem teardown : Statement (.teardown) := rfl
theorem transportError : Statement (.transportError) := rfl
theorem deliver (c : Bytes) : Statement (.deliver c) := rfl

end Sys2Proof.Laws.EncodeForm
end

