-- ==== Sys2Proof/Laws/Session.lean ====
section
/-! SUPPORT. What the dispatcher's checks, the three handlers and the commands answer. -/

namespace Sys2Proof.Machine

/-! ## The cube -/

@[simp] theorem unpack_length (s : Bytes) : (unpack s).length = 2 * s.length := by
  induction s with
  | nil => rfl
  | cons b s ih => simp [unpack, ih]; omega

/-- The packed facelets of a message long enough for them make 54 nibbles (R150). -/
theorem unpack_facelets_length {p : Bytes} (h : 34 ≤ p.length) : (unpack ((p.drop 7).take 27)).length = 54 := by
  simp; omega

@[simp] theorem isSolved_nil : isSolved [] = false := by decide

/-! ## The handlers -/

/-- The packed facelets are inside a buffer of 34 bytes (R62). -/
theorem readFacelets {p : Bytes} (h : 34 ≤ p.length) :
    memRead p offFacelets packedLen = .ok ((p.drop 7).take 27) := memRead_inside (addr := 7) (n := 27) (by omega)

/-- The battery byte is inside a buffer of 36 bytes (R62). -/
theorem readBatt {p : Bytes} (h : 36 ≤ p.length) : memReadByte p offBatt = .ok p[35] :=
  memReadByte_inside (addr := 35) (by omega)

/-- The move code is inside a buffer of 36 bytes (R62). -/
theorem readMove {p : Bytes} (h : 36 ≤ p.length) : memReadByte p offMove = .ok p[34] :=
  memReadByte_inside (addr := 34) (by omega)

/-- The acknowledgment queued for an inbound plaintext (R143). -/
def ackCipher (cph : Cipher) (cfg : Config) (p : Bytes) : Bytes :=
  encrypt cph cfg.key (builtBuffer (ackBody ((p.drop 2).take 5)))

/-- The state after writes (1) to (3) of R177: the cube, the battery byte if there is one, the snapshot event. -/
def afterUpdate (s : State) (p : Bytes) (batt? : Option Byte) : State :=
  emitUpdate (match batt? with
    | some b => (s.writeCube (unpack ((p.drop 7).take 27))).writeBattery b
    | none => s.writeCube (unpack ((p.drop 7).take 27)))

/-- `HELLO` on a buffer long enough for it never stops half way (R176, R178). -/
theorem hello_inside (cph : Cipher) {p : Bytes} (h : 36 ≤ p.length) (s : State) :
    hello cph p s =
      .ok (((solvedEval (afterUpdate s p (some p[35]))).send (ackCipher cph s.cfg p)).setFsm .streaming) := by
  unfold hello
  rw [readFacelets (by omega), Res.bind_ok, readBatt h, Res.bind_ok]
  simp [sendAck_inside cph (show 7 ≤ p.length by omega), afterUpdate, ackCipher, emitUpdate]

/-- The acknowledgment a `MOVE` asks for (R182). -/
def moveAcks (cfg : Config) (p : Bytes) : Bool :=
  match p[91]? with
  | some b => ackPred cfg b
  | none => false

theorem ackRequired_eq (cfg : Config) (p : Bytes) : ackRequired cfg p = .ok (moveAcks cfg p) := by
  have hf : offAckFlag = 91 := rfl
  unfold ackRequired moveAcks
  rw [hf]
  by_cases h : 91 < p.length
  · simp [h, memReadByte_inside h]
  · rw [if_neg h, List.getElem?_eq_none (by omega)]

@[simp] theorem recordMove_cfg (s : State) (m : Byte) : (recordMove s m).cfg = s.cfg := by
  unfold recordMove; split <;> rfl

/-- `MOVE` on a buffer long enough for it never stops half way (R176, R180). -/
theorem move_inside (cph : Cipher) {p : Bytes} (h : 36 ≤ p.length) (s : State) :
    move cph p s =
      .ok ((let t := solvedEval (recordMove (afterUpdate s p (some p[35])) p[34])
            if moveAcks s.cfg p then t.send (ackCipher cph s.cfg p) else t).setFsm .streaming) := by
  unfold move
  rw [readFacelets (by omega), Res.bind_ok, readBatt h, Res.bind_ok, readMove h, Res.bind_ok, ackRequired_eq,
    Res.bind_ok]
  cases moveAcks s.cfg p
  · simp [afterUpdate]
  · simp [sendAck_inside cph (show 7 ≤ p.length by omega), afterUpdate, ackCipher, emitUpdate]

/-- `SYNC_ECHO` on a buffer long enough for it never stops half way (R176, R183). -/
theorem syncEcho_inside {p : Bytes} (h : 34 ≤ p.length) (s : State) :
    syncEcho p s = .ok ((solvedEval (afterUpdate s p none)).setFsm .streaming) := by
  unfold syncEcho
  rw [readFacelets h]
  rfl

/-! ## The checks -/

/-- `CHECK_CRC` reads inside its buffer and refuses nothing (R129). -/
theorem checkCrc_ok_or_raised {p : Bytes} (h : 3 ≤ p.length) :
    checkCrc p = .ok () ∨ ∃ e, checkCrc p = .raised e := by
  rw [checkCrc_cases h]
  split
  · exact .inr ⟨_, rfl⟩
  · split
    · exact .inl rfl
    · exact .inr ⟨_, rfl⟩

/-- `PARSE_PLAIN` accepts or raises; when it accepts it answers its buffer and byte 2 (R126). -/
theorem parsePlain_ok_or_raised (cfg : Config) (p : Bytes) :
    (∃ op, p[0]? = some marker ∧ p[2]? = some op ∧ (cfg.verifyRxCrc = true → checkCrc p = .ok ()) ∧
      parsePlain cfg p = .ok (p, op)) ∨
    ∃ e, parsePlain cfg p = .raised e := by
  rcases parsePlain_cases cfg p with ⟨_, h⟩ | ⟨_, _, h⟩ | ⟨_, _, _, h⟩ | ⟨h3, h0, h⟩
  · exact .inr ⟨_, h⟩
  · exact .inr ⟨_, h⟩
  · exact .inr ⟨_, h⟩
  · have e0 : p[0]? = some marker := by rw [List.getElem?_eq_getElem (by omega), h0]
    have e2 : p[2]? = some p[2] := List.getElem?_eq_getElem (by omega)
    cases hv : cfg.verifyRxCrc
    · exact .inl ⟨_, e0, e2, by simp, by simpa [hv] using h⟩
    · rcases checkCrc_ok_or_raised h3 with hc | ⟨e, hc⟩
      · exact .inl ⟨_, e0, e2, fun _ => hc, by simpa [hv, hc] using h⟩
      · exact .inr ⟨e, by simpa [hv, hc] using h⟩

/-- The dispatcher's checks accept a frame or raise; an accepted frame has its row's marker, opcode and length (R176, R130). -/
theorem classify_ok_or_raised (cfg : Config) (p : Bytes) :
    (∃ k op, p[0]? = some marker ∧ p[2]? = some op ∧ kindOf op = some k ∧ minLen k ≤ p.length ∧
      (cfg.verifyRxCrc = true → checkCrc p = .ok ()) ∧ classify cfg p = .ok k) ∨
    ∃ e, classify cfg p = .raised e := by
  unfold classify
  rcases parsePlain_ok_or_raised cfg p with ⟨op, h0, h2, hv, h⟩ | ⟨e, h⟩
  · rw [h, Res.bind_ok]
    unfold selectHandler
    cases hk : kindOf op with
    | none => exact .inr ⟨_, by simp; rfl⟩
    | some k =>
      by_cases hl : p.length < minLen k
      · exact .inr ⟨_, by simp [hl]; rfl⟩
      · exact .inl ⟨k, op, h0, h2, hk, by omega, hv, by simp [hl]⟩
  · exact .inr ⟨e, by rw [h]; rfl⟩

theorem minLen_ge (k : MsgKind) : 34 ≤ minLen k := by cases k <;> decide

/-- A handler on an accepted buffer answers a state in `Streaming`, with both queues and the configuration as R177 has them. -/
theorem handle_inside (cph : Cipher) {k : MsgKind} {p : Bytes} (h : minLen k ≤ p.length) (s : State) :
    ∃ t, handle cph k p s = .ok t ∧ t.fsm = .streaming ∧ t.rxq = s.rxq ∧ t.cfg = s.cfg ∧ t.script = s.script ∧
      t.out = s.out ∧ t.cube = unpack ((p.drop 7).take 27) := by
  cases k with
  | hello => exact ⟨_, hello_inside cph h s, by simp [afterUpdate, emitUpdate]⟩
  | move =>
    have h : 36 ≤ p.length := h
    refine ⟨_, move_inside cph h s, ?_⟩
    cases moveAcks s.cfg p <;> cases hm : moveLabel p[34] <;> simp [recordMove, hm, afterUpdate, emitUpdate]
  | syncEcho => exact ⟨_, syncEcho_inside h s, by simp [afterUpdate, emitUpdate]⟩

/-- Everything `DISPATCH` can do: nothing, in `Disconnected`; one handler, on a frame its checks accept; a `raise` (R176). -/
theorem dispatch_cases (cph : Cipher) (p : Bytes) (s : State) :
    (s.fsm = .disconnected ∧ dispatch cph p s = .ok s) ∨
    (s.fsm ≠ .disconnected ∧ ∃ k, classify s.cfg p = .ok k ∧ minLen k ≤ p.length ∧
      dispatch cph p s = handle cph k p s) ∨
    (s.fsm ≠ .disconnected ∧ ∃ e, classify s.cfg p = .raised e ∧ dispatch cph p s = .raised e) := by
  by_cases hf : s.fsm = .disconnected
  · exact .inl ⟨hf, by simp [dispatch, hf]⟩
  · rcases classify_ok_or_raised s.cfg p with ⟨k, _, _, _, _, hl, _, h⟩ | ⟨e, h⟩
    · exact .inr (.inl ⟨hf, k, h, hl, by simp [dispatch, hf, h]⟩)
    · exact .inr (.inr ⟨hf, e, h, by simp [dispatch, hf, h]⟩)

/-- Everything `RX` can do (R175). -/
theorem rx_cases (cph : Cipher) (s : State) :
    (s.rxq = [] ∧ rx cph s = .refused .rxqEmpty) ∨
    ∃ c rest, s.rxq = c :: rest ∧
      ((c.length % 16 ≠ 0 ∧ rx cph s = .next (s.setRxq rest)) ∨
        ∃ p, decrypt cph s.cfg.key c = .ok p ∧ p.length = c.length ∧
          rx cph s = recover (s.setRxq rest) (dispatch cph p (s.setRxq rest))) := by
  unfold rx
  cases hq : s.rxq with
  | nil => exact .inl ⟨rfl, rfl⟩
  | cons c rest =>
    refine .inr ⟨c, rest, rfl, ?_⟩
    rcases decrypt_cases cph s.cfg.key c with ⟨_, p, hp, hl⟩ | ⟨hr, hp⟩
    · exact .inr ⟨p, hp, hl, by simp [receive, hp]⟩
    · exact .inl ⟨hr, by simp [receive, hp]⟩

/-! ## The frames the block sends -/

theorem identPayload_eq (a : Addr) : identPayload a = .ok (zeros 11 ++ reversedAddr a ++ zeros 2) := by
  unfold identPayload
  rw [show zeros identLen = zeros 11 ++ zeros 6 ++ zeros 2 from by simp [identLen]]
  exact memWrite_mid (by simp [identAddrOff]) (by simp)

/-- The `IDENT` frame is always built (R173). -/
theorem identFrame_eq (cph : Cipher) (cfg : Config) (a : Addr) :
    identFrame cph cfg a =
      .ok (encrypt cph cfg.key (builtBuffer (zeros 11 ++ reversedAddr a ++ zeros 2))) := by
  simp only [identFrame, identPayload_eq, Res.bind_ok]
  exact buildFrame_inside cph cfg (by simp) (by simp)

theorem pack_solved_length : (packPairs solved).length = 27 := by decide

/-- The `SYNC_REQ` frame is built whenever the operation exists (R190). -/
theorem syncFrame_eq (cph : Cipher) {cfg : Config} (h : cfg.hasSync = true) :
    syncFrame cph cfg =
      .ok (encrypt cph cfg.key (builtBuffer (fiveBytes cfg.syncHdr ++ packPairs solved ++ [0x00, 0x00]))) := by
  have hp : pack solved = .ok (packPairs solved) := by decide
  simp only [syncFrame, h, if_true, syncBody, hp, Res.map_ok, Res.bind_ok]
  exact buildFrame_inside cph cfg (by simp [pack_solved_length]) (by simp [pack_solved_length])

end Sys2Proof.Machine
end

