-- ==== Sys2Proof/Laws/Step.lean ====
section
/-! SUPPORT. What fetching an operation and one step can do, said once. -/

namespace Sys2Proof.Machine

/-- A rejected entry is passed over or refused with the decoder's reason. -/
theorem rejected_cases (e : DecodeError) (s : State) :
    (((∃ b, e = .dropped b) ∨ e = .blankLine) ∧ rejected e s = .pass s) ∨
    ((∀ b, e ≠ .dropped b) ∧ e ≠ .blankLine ∧ rejected e s = .refuse (.undecodable e)) := by
  cases e <;> simp [rejected]

/-- Where the next state of a step comes from: the decoded script entry, `RX` with the script over, a passed-over entry, or
the idle block. -/
theorem step_eq_next {s t : State} (h : step s = .next t) :
    (∃ it rest i, s.script = it :: rest ∧ decode it = .ok i ∧ exec i (s.setScript rest) = .next t) ∨
    (s.script = [] ∧ s.rxq ≠ [] ∧ exec .rx s = .next t) ∨
    (∃ it rest e, s.script = it :: rest ∧ decode it = .error e ∧ t = s.setScript rest) ∨
    (s.script = [] ∧ s.rxq = [] ∧ t = s) := by
  unfold step fetch at h
  cases hs : s.script with
  | cons it rest =>
    cases hd : decode it with
    | ok i => exact .inl ⟨it, rest, i, rfl, hd, by simpa [hs, hd] using h⟩
    | error e =>
      rcases rejected_cases e (s.setScript rest) with ⟨_, hp⟩ | ⟨_, _, hr⟩
      · exact .inr (.inr (.inl ⟨it, rest, e, rfl, hd, by simpa [hs, hd, hp] using h.symm⟩))
      · simp [hs, hd, hr] at h
  | nil =>
    cases hq : s.rxq with
    | cons c q => exact .inr (.inl ⟨rfl, by simp, by simpa [hs, hq] using h⟩)
    | nil => exact .inr (.inr (.inr ⟨rfl, rfl, by simpa [hs, hq] using h.symm⟩))

end Sys2Proof.Machine
end

