-- ==== Sys2Proof/Machine/Pseudo.lean ====
section
/-! DEFINITION. The pseudo-operations `MKHELLO`, `MKMOVE` and `MKSYNC` of spec/30_encoding.md R87: constructors of test
inputs, used by no operation of the block. -/

namespace Sys2Proof.Machine

/-- A plaintext of `n` bytes with length byte `len`: the content from offset 2, zeros after it, and the CRC bytes of R70 at
`len - 2` and `len - 1`. R87 and R70 do not say what stands there when `len` does not fit the `n` bytes: a CRC byte whose
offset is outside them is left out, and the CRC covers what there is of the first `len - 2` bytes (DESIGN CHOICE, log 34). -/
def mkPlain (n len : Nat) (content : Bytes) : Bytes :=
  let base := ([marker, lenByte len] ++ content ++ zeros n).take n
  let c := crc16 (base.take (len - 2))
  (base.set (len - 2) (lo8 c)).set (len - 1) (hi8 c)

/-- `MKHELLO(hdr, cube, batt, n)` with its `L` (R87: `L = 38` unless stated). -/
def mkHello (hdr : Bytes) (cube : List Nibble) (batt : Byte) (n len : Nat) : Bytes :=
  mkPlain n len ([opHello] ++ hdr ++ packPairs cube ++ [0x00, batt])

/-- `MKMOVE(hdr, cube, move, batt, flag, n)` with its `L` (R87: `L = 94` unless stated); the flag stands at 91 when `n > 91`. -/
def mkMove (hdr : Bytes) (cube : List Nibble) (m batt flag : Byte) (n len : Nat) : Bytes :=
  mkPlain n len ([opMove] ++ hdr ++ packPairs cube ++ [m, batt] ++ zeros 55 ++ [flag])

/-- `MKSYNC(hdr, cube, n)` with its `L` (R87: `L = 36` unless stated). -/
def mkSync (hdr : Bytes) (cube : List Nibble) (n len : Nat) : Bytes :=
  mkPlain n len ([opSync] ++ hdr ++ packPairs cube)

end Sys2Proof.Machine
end

