-- ==== Sys2Proof/Tests/Slice0.lean ====
section
/-! SUPPORT. Tests of the model against spec/95_test_vectors.md, spec/30_encoding.md and the examples in the rules, and a
witness for every statement with hypotheses. Expected values are the spec's; each comment names the row or rule. -/

namespace Sys2Proof.Tests

open Sys2Proof.Machine

-- One theorem after the other: each is a short kernel evaluation, and a thread for each would exhaust the memory limit.
set_option Elab.async false

/-! ## Ciphers, states and frames -/

/-- `IDC` (95_test_vectors.md section 0). -/
def idc : Cipher := fun _ => Equiv.refl _

/-- A block XORed with the key, byte by byte. -/
def xorBlock (k b : Block) : Block := Vector.ofFn fun i => b[i] ^^^ k[i]

theorem xorBlock_twice (k b : Block) : xorBlock k (xorBlock k b) = b := by
  ext i hi
  simp [xorBlock]

/-- `XORC` (95_test_vectors.md section 0). -/
def xorc : Cipher := fun k => ⟨xorBlock k, xorBlock k, xorBlock_twice k, xorBlock_twice k⟩

/-- The key of `XORC`. -/
def testKey : Block := ⟨#[0, 1, 2, 3, 4, 5, 6, 7, 8, 9, 10, 11, 12, 13, 14, 15], rfl⟩

/-- A configuration with the test key, the other parameters at R8's defaults. -/
def testConfig : Config := ⟨testKey, BitVec.allOnes 256, false, true, ⟨0x04, 0, 0, 0, 0⟩⟩

/-- The same, checking inbound trailers. -/
def checkingConfig : Config := { testConfig with verifyRxCrc := true }

/-- The same, without `SYNC_REQ`. -/
def syncless : Config := { testConfig with hasSync := false }

/-- A fresh session with a given configuration, and that session's first state (section 2.6). -/
def freshWith (cfg : Config) : State := ⟨.handshaking, [], none, [], false, [], [], [], cfg, [], .none⟩

/-- A fresh session. -/
def fresh : State := freshWith testConfig

/-- No session. -/
def off : State := { fresh with fsm := .disconnected }

/-- `PK` as section 0 prints it. -/
def pk : Bytes :=
  [0x33, 0x33, 0x33, 0x33, 0x13, 0x11, 0x11, 0x11, 0x11, 0x44, 0x44, 0x44, 0x44, 0x24, 0x22, 0x22, 0x22, 0x22,
   0x00, 0x00, 0x00, 0x00, 0x50, 0x55, 0x55, 0x55, 0x55]

/-- `S1`: `SOLVED` with index 0 set to 1 (section 3). -/
def s1 : List Nibble := solvedImage.set 0 1

/-- `S2`: `SOLVED` with index 53 set to 0 (section 3). -/
def s2 : List Nibble := solvedImage.set 53 0

/-- The `HELLO` plaintext of S5. -/
def g : Bytes := [0xFE, 0x26, 0x02, 0x11, 0x22, 0x33, 0x44] ++ pk ++ [0x00, 0x4D, 0xA0, 0x18] ++ List.replicate 10 0

/-- `c1` of program A. -/
def c1 : Bytes :=
  [0xFE, 0x26, 0x02, 0x11, 0x22, 0x33, 0x44] ++ pk.set 0 0x31 ++ [0x00, 0x50, 0xE0, 0x12] ++ List.replicate 10 0

/-- `c2` of program A. -/
def c2 : Bytes :=
  [0xFE, 0x5E, 0x03, 0xA1, 0xA2, 0xA3, 0xA4] ++ pk.set 26 0x05 ++ [0x05, 0x4F] ++ List.replicate 55 0 ++
    [0x01, 0x3F, 0xED, 0x00, 0x00]

/-- `c3` of program A. -/
def c3 : Bytes :=
  [0xFE, 0x5E, 0x03, 0xB1, 0xB2, 0xB3, 0xB4] ++ pk ++ [0x09, 0x4F] ++ List.replicate 55 0 ++
    [0x00, 0x7A, 0xAF, 0x00, 0x00]

/-- The 48-byte `MOVE` of program B line 9, its trailer at 36. -/
def m48 : Bytes := mkMove [0x11, 0x22, 0x33, 0x44] s1 3 60 1 48 38

/-- `c4` of program A. -/
def c4 : Bytes := [0xFE, 0x24, 0x04, 0x00, 0x00, 0x00, 0x00] ++ pk ++ [0x05, 0xCB] ++ List.replicate 12 0

/-- The `ACK` plaintext for the ack head of `g` (S5). -/
def ackOfG : Bytes := [0xFE, 0x09, 0x02, 0x11, 0x22, 0x33, 0x44, 0xCC, 0x63, 0, 0, 0, 0, 0, 0, 0]

/-- The `IDENT` plaintext for `AA:BB:CC:DD:EE:FF` (program A, program D). -/
def identOfAddr : Bytes :=
  [0xFE, 0x15] ++ List.replicate 11 0 ++ [0xFF, 0xEE, 0xDD, 0xCC, 0xBB, 0xAA, 0xDD, 0x14] ++ List.replicate 11 0

/-- `AA:BB:CC:DD:EE:FF`. -/
def addr : Addr := ⟨0xAA, 0xBB, 0xCC, 0xDD, 0xEE, 0xFF⟩

/-- The state after accepting `g` (S5). -/
def solvedSession : State :=
  { fresh with
    fsm := .streaming, cube := solvedImage, battery := some 77, wasSolved := true, txq := [ackOfG]
    evt := [.stateUpdated solvedImage (some 77), .solvedEdge] }

/-- A field of the state a computation ends with. -/
def got {α : Type} (r : Res State) (f : State → α) : Option α :=
  match r with
  | .ok s => some (f s)
  | _ => none

/-- A field of an operation's next state. -/
def nextOf {α : Type} (r : Host.Outcome State Fault Refusal) (f : State → α) : Option α :=
  match r with
  | .next s => some (f s)
  | _ => none

/-- The refusal an operation ends with. -/
def refusalOf (r : Host.Outcome State Fault Refusal) : Option Refusal :=
  match r with
  | .refused x => some x
  | _ => none

/-! ## Well-formedness: an ill-formed term for each check -/

theorem test_wf_accepts_rows : (Instr.hello c1).wf ∧ (Instr.move c2).wf ∧ (Instr.syncEcho c4).wf := by decide +kernel

theorem test_wf_marker : (Instr.hello (c1.set 0 0xFD)).wf = false ∧ (Instr.move (c2.set 0 0xFD)).wf = false ∧
    (Instr.syncEcho (c4.set 0 0xFD)).wf = false := by decide +kernel

theorem test_wf_opcode : (Instr.hello c2).wf = false ∧ (Instr.move c4).wf = false ∧ (Instr.syncEcho c1).wf = false := by
  decide +kernel

theorem test_wf_length : (Instr.hello (c1.take 35)).wf = false ∧ (Instr.move (c2.take 35)).wf = false ∧
    (Instr.syncEcho (c4.take 33)).wf = false ∧ (Instr.syncEcho (c4.take 34)).wf = true := by decide +kernel

/-! ## Decoding (R73 to R80, R85): words written out from the spec -/

theorem test_decode_hello : decode (.frame .inbound c1) = .ok (.hello c1) := by decide +kernel

theorem test_decode_move : decode (.frame .inbound c2) = .ok (.move c2) := by decide +kernel

theorem test_decode_syncEcho : decode (.frame .inbound c4) = .ok (.syncEcho c4) := by decide +kernel

theorem test_decode_ident : decode (.frame .outbound identOfAddr) = .ok (.ident addr) := by decide +kernel

theorem test_decode_ack :
    decode (.frame .outbound ackOfG) = .ok (.ack ⟨0x02, 0x11, 0x22, 0x33, 0x44⟩) := by decide +kernel

theorem test_decode_syncReq : decode (.frame .outbound c4) = .ok .syncReq := by decide +kernel

theorem test_decode_connect : decode (.line "CONNECT AA:bb:CC:DD:EE:FF ; go".toList) = .ok (.connect addr) := by
  decide +kernel

theorem test_decode_deliver : decode (.line "DELIVER FE 09  a0".toList) = .ok (.deliver [0xFE, 0x09, 0xA0]) ∧
    decode (.line "DELIVER".toList) = .ok (.deliver []) := by decide +kernel

theorem test_decode_dispatch : decode (.line "RXP FE 24 04".toList) = .ok (.dispatch [0xFE, 0x24, 0x04]) := by
  decide +kernel

theorem test_decode_rx : decode (.line "RX".toList) = .ok .rx := by decide +kernel

theorem test_decode_txDone : decode (.line "TXDONE".toList) = .ok .txDone := by decide +kernel

theorem test_decode_requestSync : decode (.line "SYNCREQ".toList) = .ok .requestSync := by decide +kernel

theorem test_decode_teardown : decode (.line "TEARDOWN".toList) = .ok .teardown := by decide +kernel

theorem test_decode_transportError : decode (.line "TERR".toList) = .ok .transportError := by decide +kernel

/-- The twelve FUNC rows have no encoding (R83): the call stands for itself, and no other operation is given as a call. -/
theorem test_decode_functional :
    (∀ f ∈ ([.crc16 g, .crcStep 0x1234 0x56, .encrypt g, .decrypt g, .buildFrame g, .parseFrame g, .buildAck g, .unpack pk,
      .pack s1, .isSolved s1, .toNotation s1, .moveLabel 2] : List Instr), decode (.call f) = .ok f) ∧
    decode (.call .rx) = .error .notFunctional ∧ decode (.call (.hello g)) = .error .notFunctional := by decide +kernel

theorem test_decode_refuses_lines :
    decode (.line "RXX".toList) = .error .unknownWord ∧ decode (.line "RX 01".toList) = .error .badOperand ∧
    decode (.line "CONNECT AA:BB:CC:DD:EE".toList) = .error .badOperand ∧
    decode (.line "DELIVER FE0".toList) = .error .badOperand ∧
    decode (.line "DELIVER G0".toList) = .error .badOperand ∧
    decode (.line " ; nothing".toList) = .error .blankLine := by decide +kernel

theorem test_decode_refuses_frames :
    decode (.frame .inbound (g.set 0 0xFD)) = .error (.dropped (.protocolError .badMarker)) ∧
    decode (.frame .inbound (g.set 2 0x05)) = .error (.dropped (.protocolError .unknownOpcode)) ∧
    decode (.frame .inbound (g.take 2)) = .error (.dropped (.formatError .tooShort)) ∧
    decode (.frame .inbound (g.take 32)) = .error (.dropped (.formatError .tooShort)) ∧
    decode (.frame .inbound []) = .error (.dropped (.formatError .tooShort)) ∧
    decode (.frame .outbound g) = .error .notOutbound := by decide +kernel

theorem test_encode_frames : encode (.ident addr) = .frame .outbound identOfAddr ∧
    encode (.ack ⟨0x02, 0x11, 0x22, 0x33, 0x44⟩) = .frame .outbound ackOfG ∧
    encode .syncReq = .frame .outbound c4 := by decide +kernel

theorem test_encode_lines : encode (.connect addr) = .line "CONNECT AA:BB:CC:DD:EE:FF".toList ∧
    encode (.deliver [0xFE, 0x09]) = .line "DELIVER FE 09".toList := by decide +kernel

/-- The words of the opcode table's rows, operand bits zero (R83). -/
theorem test_table_words : decodeTableWord 24 0xFE0002 = some (.hello ([0xFE, 0x00, 0x02] ++ zeros 93)) ∧
    decodeTableWord 24 0xFE0003 = some (.move ([0xFE, 0x00, 0x03] ++ zeros 93)) ∧
    decodeTableWord 24 0xFE0004 = some (.syncEcho ([0xFE, 0x00, 0x04] ++ zeros 93)) ∧
    decodeTableWord 24 0xFE1500 = some (.ident ⟨0, 0, 0, 0, 0, 0⟩) ∧
    decodeTableWord 24 0xFE0900 = some (.ack ⟨0, 0, 0, 0, 0⟩) ∧
    decodeTableWord 24 0xFE2404 = some .syncReq ∧ decodeTableWord 24 0xFD0002 = none := by decide +kernel

/-! ## The Checksum Engine (section 2.1) -/

theorem test_crc16_vectors : crc16 [] = 0xFFFF ∧ crc16 [0x01] = 0x807E ∧ crc16 [0x80] = 0xE0BE ∧
    crc16 [0x00, 0x00] = 0xB001 ∧ crc16 [0xFF, 0xFF] = 0x0000 ∧ crc16 [0xFE, 0x04] = 0x1340 ∧
    crc16 [0x31, 0x32, 0x33, 0x34, 0x35, 0x36, 0x37, 0x38, 0x39] = 0x4B37 ∧
    crc16 (c4.take 34) = 0xCB05 := by decide +kernel

theorem test_exec_crc16 : nextOf (exec (.crc16 [0xFE, 0x09]) fresh) State.out = some (.word 0xD681) := by
  decide +kernel

theorem test_crcStep_vectors : crcStep 0x0000 0x01 = 0xC0C1 ∧ crcStep 0x0001 0x00 = 0xC0C1 ∧
    crcStep 0x8000 0x00 = 0x0080 ∧ crcStep 0xFFFF 0xFF = 0x00FF ∧ crcStep 0xFFFF 0x01 = 0x807E := by decide +kernel

theorem test_exec_crcStep :
    nextOf (exec (.crcStep 0x8000 0x00) fresh) State.out = some (.word 0x0080) := by decide +kernel

/-! ## The Block Cipher Codec (section 2.2) -/

theorem test_encrypt_pads : encrypt idc testKey [0x01, 0x02, 0x03] = [0x01, 0x02, 0x03] ++ List.replicate 13 0 ∧
    encrypt xorc testKey [0x01, 0x02, 0x03] = [1, 3, 1, 3, 4, 5, 6, 7, 8, 9, 10, 11, 12, 13, 14, 15] ∧
    encrypt xorc testKey [] = [] := by decide +kernel

theorem test_encrypt_blocks : encrypt xorc testKey (List.replicate 17 0xFF) =
    [0xFF, 0xFE, 0xFD, 0xFC, 0xFB, 0xFA, 0xF9, 0xF8, 0xF7, 0xF6, 0xF5, 0xF4, 0xF3, 0xF2, 0xF1, 0xF0,
     0xFF, 1, 2, 3, 4, 5, 6, 7, 8, 9, 10, 11, 12, 13, 14, 15] := by decide +kernel

theorem test_decrypt_lengths : decrypt idc testKey (zeros 15) = .raised (.formatError .badCipherLength) ∧
    decrypt idc testKey (zeros 17) = .raised (.formatError .badCipherLength) ∧ decrypt idc testKey [] = .ok [] := by
  decide +kernel

/-- The `IDENT` ciphertext of program D, deciphered. -/
theorem test_decrypt_blocks : decrypt xorc testKey
    [0xFE, 0x14, 0x02, 0x03, 0x04, 0x05, 0x06, 0x07, 0x08, 0x09, 0x0A, 0x0B, 0x0C, 0xF2, 0xE0, 0xD2,
     0xCC, 0xBA, 0xA8, 0xDE, 0x10, 0x05, 0x06, 0x07, 0x08, 0x09, 0x0A, 0x0B, 0x0C, 0x0D, 0x0E, 0x0F] =
    .ok identOfAddr := by decide +kernel

/-! ## The Frame Codec (section 2.3) -/

theorem test_buildFrame_plaintexts : framePlain [0, 0] = .ok ([0xFE, 0x04, 0x40, 0x13] ++ zeros 12) ∧
    framePlain [0x02, 0x11, 0x22, 0x33, 0x44, 0xAA, 0xBB] = .ok ackOfG ∧
    framePlain (List.replicate 14 0x07) = .ok ([0xFE, 0x10] ++ List.replicate 12 0x07 ++ [0x62, 0xEC]) ∧
    framePlain (List.replicate 15 0x07) =
      .ok ([0xFE, 0x11] ++ List.replicate 13 0x07 ++ [0x2C, 0xEA] ++ zeros 15) := by decide +kernel

theorem test_buildFrame_bounds : framePlain (zeros 254) = .refused .bodyLength ∧ framePlain [0x07] = .refused .bodyLength := by decide +kernel

theorem test_parseFrame_outcomes : parseFrame idc testConfig g = .ok (g, 0x02) ∧
    parseFrame idc testConfig (g.set 0 0xFD) = .raised (.protocolError .badMarker) ∧
    parseFrame idc testConfig [] = .raised (.formatError .tooShort) ∧
    parseFrame idc testConfig (g.take 15) = .raised (.formatError .badCipherLength) ∧
    parseFrame idc testConfig (g.set 2 0x05) = .ok (g.set 2 0x05, 0x05) := by decide +kernel

/-- With `VERIFY_RX_CRC` (the last lines of section 2.3). -/
theorem test_parseFrame_checking : parseFrame idc checkingConfig g = .ok (g, 0x02) ∧
    parseFrame idc checkingConfig (g.set 36 0) = .raised (.protocolError .badCrc) ∧
    parseFrame idc checkingConfig (g.set 37 0) = .raised (.protocolError .badCrc) ∧
    parseFrame idc checkingConfig (g.set 1 0x00) = .raised (.formatError .tooShort) ∧
    parseFrame idc checkingConfig (g.set 1 0xFF) = .raised (.formatError .tooShort) ∧
    parseFrame idc checkingConfig (g.set 47 0x99) = .ok (g.set 47 0x99, 0x02) := by decide +kernel

/-! ## The Acknowledgment Builder (section 2.4) -/

theorem test_buildAck_bodies : buildAck g = .ok [0x02, 0x11, 0x22, 0x33, 0x44, 0xCC, 0x63] ∧
    buildAck c2 = .ok [0x03, 0xA1, 0xA2, 0xA3, 0xA4, 0xBB, 0x03] ∧
    buildAck (g.take 6) = .refused .tooShort := by decide +kernel

theorem test_exec_buildAck : nextOf (exec (.buildAck (g.take 7)) fresh) State.out =
    some (.bytes [0x02, 0x11, 0x22, 0x33, 0x44, 0xCC, 0x63]) := by decide +kernel

/-- The ack ciphertext of program D. -/
theorem test_ackFrame_cipher : ackFrame xorc testConfig g =
    .ok [0xFE, 0x08, 0x00, 0x12, 0x26, 0x36, 0x42, 0xCB, 0x6B, 0x09, 0x0A, 0x0B, 0x0C, 0x0D, 0x0E, 0x0F] := by
  decide +kernel

/-! ## The Cube State Model (section 2.5) -/

theorem test_unpack_vectors : unpack [0x31] = [1, 3] ∧ unpack [0xF0, 0x0F] = [0, 15, 15, 0] ∧
    unpack (zeros 27) = List.replicate 54 0 ∧ unpack pk = solvedImage := by decide +kernel

theorem test_exec_unpack : nextOf (exec (.unpack [0x6A]) fresh) State.out = some (.nibbles [10, 6]) := by
  decide +kernel

theorem test_pack_vectors : pack solvedImage = .ok pk ∧ pack s1 = .ok (pk.set 0 0x31) ∧
    pack s2 = .ok (pk.set 26 0x05) := by decide +kernel

theorem test_exec_pack : refusalOf (exec (.pack (solvedImage.take 53)) fresh) = some .badLength := by decide +kernel

theorem test_isSolved_vectors : isSolved solvedImage ∧ isSolved s1 = false ∧ isSolved s2 = false ∧
    isSolved (solvedImage.set 26 15) = false ∧ isSolved [] = false ∧ isSolved (solvedImage.take 53) = false ∧
    isSolved (List.replicate 54 0) = false := by decide +kernel

theorem test_exec_isSolved : nextOf (exec (.isSolved solvedImage) fresh) State.out = some (.flag true) := by
  decide +kernel

theorem test_toNotation_vectors : toNotation solvedImage =
      .ok "UUUUUUUUURRRRRRRRRFFFFFFFFFDDDDDDDDDLLLLLLLLLBBBBBBBBB".toList ∧
    toNotation (List.replicate 54 0) = .ok (List.replicate 54 'L') ∧ toNotation [] = .ok [] ∧
    toNotation (solvedImage.take 53) = .ok [] := by decide +kernel

theorem test_exec_toNotation : refusalOf (exec (.toNotation (solvedImage.set 0 6)) fresh) = some .badColour := by
  decide +kernel

theorem test_moveLabel_vectors : ([0, 1, 2, 3, 4, 5] : Bytes).map moveLabel =
    [some .U, some .D, some .L, some .R, some .F, some .B] ∧ moveLabel 6 = none ∧ moveLabel 9 = none ∧
    moveLabel 255 = none := by decide +kernel

theorem test_exec_moveLabel : nextOf (exec (.moveLabel 2) fresh) State.out = some (.label (some .L)) := by
  decide +kernel

/-! ## The pseudo-operations (R87), against the encodings of program A -/

theorem test_mk_forms : mkHello [0x11, 0x22, 0x33, 0x44] s1 80 48 38 = c1 ∧
    (mkMove [0xA1, 0xA2, 0xA3, 0xA4] s2 5 79 1 92 38).drop 38 = (c2.take 92).drop 38 ∧
    mkSync [0, 0, 0, 0] solvedImage 48 36 = c4 := by decide +kernel

/-- The model's choice of log 34: with `L = 38`, 36 bytes hold no CRC byte and 37 hold the low one only. -/
theorem test_mk_short : mkHello [0x11, 0x22, 0x33, 0x44] s1 80 36 38 = c1.take 36 ∧
    mkHello [0x11, 0x22, 0x33, 0x44] s1 80 37 38 = c1.take 37 := by decide +kernel

/-! ## The messages (section 1 S5, S6; section 2.6; program A) -/

/-- S5, the whole instance. -/
theorem test_hello_S5 : dispatch idc g fresh = .ok solvedSession := by decide +kernel

/-- Section 2.6, `HELLO` of 36 bytes: the battery byte is stored raw. -/
theorem test_hello_36 :
    let p := [0xFE, 0x00, 0x02, 0x09, 0x08, 0x07, 0x06] ++ pk ++ [0x00, 0xC8]
    got (dispatch idc p fresh) State.battery = some (some 200) ∧
    got (dispatch idc p fresh) State.txq =
      some [[0xFE, 0x09, 0x02, 0x09, 0x08, 0x07, 0x06, 0x7D, 0xFA, 0, 0, 0, 0, 0, 0, 0]] ∧
    dispatch idc (p.take 35) fresh = .raised (.formatError .tooShort) := by decide +kernel

/-- S6: the move log gains `L`, no acknowledgment, no second edge. -/
theorem test_move_S6 :
    let p := [0xFE, 0x5E, 0x03, 0x11, 0x22, 0x33, 0x44] ++ pk ++ [0x02, 0x4D] ++ zeros 60
    got (dispatch idc p solvedSession) (fun t => (t.moves, t.txq, t.evt.drop 2)) =
      some ([.L], [ackOfG], [.stateUpdated solvedImage (some 77), .moveRecognized .L]) := by decide +kernel

/-- Program A lines 6 and 8: the acknowledgment, and the code 9 that logs nothing while the edge is raised. -/
theorem test_move_A :
    got (dispatch idc c2 fresh) (fun t => (t.moves, t.txq, t.evt)) =
      some ([.B], [[0xFE, 0x09, 0x03, 0xA1, 0xA2, 0xA3, 0xA4, 0xBB, 0x03, 0, 0, 0, 0, 0, 0, 0]],
        [.stateUpdated s2 (some 79), .moveRecognized .B]) ∧
    got (dispatch idc c3 fresh) (fun t => (t.moves, t.txq, t.evt)) =
      some ([], [], [.stateUpdated solvedImage (some 79), .solvedEdge]) := by decide +kernel

/-- Section 2.6: the flag at 91 is read from 92 bytes on, and any value but zero asks for an acknowledgment by default. -/
theorem test_move_flag :
    let p := [0xFE, 0x00, 0x03, 0x00, 0x00, 0x00, 0x00] ++ pk ++ [0x01, 0x05] ++ zeros 55 ++ [0xFF]
    got (dispatch idc p fresh) (fun t => t.txq.length) = some 1 ∧
    got (dispatch idc (p.take 91) fresh) (fun t => (t.moves, t.txq.length)) = some ([.D], 0) ∧
    got (dispatch idc (p.set 91 0x00) fresh) (fun t => t.txq.length) = some 0 := by decide +kernel

/-- Section 2.6 and program A line 13: the battery stays, no acknowledgment, an edge only from not solved. -/
theorem test_syncEcho :
    got (dispatch idc (c4.take 34) fresh) (fun t => (t.battery, t.txq, t.evt)) =
      some (none, [], [.stateUpdated solvedImage none, .solvedEdge]) ∧
    got (dispatch idc c4 solvedSession) (fun t => (t.battery, t.evt.drop 2)) =
      some (some 77, [.stateUpdated solvedImage (some 77)]) ∧
    dispatch idc (c4.take 33) fresh = .raised (.formatError .tooShort) := by decide +kernel

/-- A frame of another message, and any frame without a session. -/
theorem test_message_guards : refusalOf (exec (.hello c2) fresh) = some .notThisMessage ∧
    nextOf (exec (.move c2) off) State.moves = some [] ∧
    nextOf (exec (.syncEcho (c4.set 0 0)) fresh) State.fsm = some .handshaking := by decide +kernel

/-- Section 2.3 and program B: what is dropped, and what is accepted though unread bytes differ. -/
theorem test_dispatch_drops :
    dispatch idc (g.set 2 0x05) fresh = .raised (.protocolError .unknownOpcode) ∧
    dispatch idc (g.set 2 0x00) fresh = .raised (.protocolError .unknownOpcode) ∧
    dispatch idc (g.take 16) fresh = .raised (.formatError .tooShort) ∧
    nextOf (exec (.dispatch (g.set 2 0x05)) fresh) id = some fresh ∧
    dispatch idc (((g.set 36 0).set 37 0).set 1 0xFF) fresh = .ok solvedSession := by decide +kernel

/-- Program B lines 1 and 9: a ragged buffer is consumed and nothing else happens; a 48-byte `MOVE` is taken. -/
theorem test_rx :
    nextOf (exec .rx { fresh with rxq := [List.replicate 15 0xFE, g] }) id = some { fresh with rxq := [g] } ∧
    nextOf (rx idc { fresh with rxq := [m48, g] })
      (fun t => (t.moves, t.battery, t.txq, t.rxq)) = some ([.R], some 60, [], [g]) := by decide +kernel

theorem test_rx_empty : refusalOf (exec .rx fresh) = some .rxqEmpty := by decide +kernel

/-! ## The commands and events (programs A, C, D) -/

/-- Program D line 1. -/
theorem test_connect : got (connect xorc addr off) (fun t => (t.fsm, t.txq)) = some (.handshaking,
    [[0xFE, 0x14, 0x02, 0x03, 0x04, 0x05, 0x06, 0x07, 0x08, 0x09, 0x0A, 0x0B, 0x0C, 0xF2, 0xE0, 0xD2,
      0xCC, 0xBA, 0xA8, 0xDE, 0x10, 0x05, 0x06, 0x07, 0x08, 0x09, 0x0A, 0x0B, 0x0C, 0x0D, 0x0E, 0x0F]]) ∧
    refusalOf (exec (.connect addr) fresh) = some .alreadyConnected := by decide +kernel

/-- Program C line 17: the Session is wiped, and the second address. -/
theorem test_connect_again :
    got (connect idc ⟨1, 2, 3, 4, 5, 6⟩ { solvedSession with fsm := .disconnected, txq := [] })
      (fun t => (t.cube, t.battery, t.wasSolved, t.txq)) =
    some ([], none, false,
      [[0xFE, 0x15] ++ zeros 11 ++ [6, 5, 4, 3, 2, 1, 0xD4, 0x26] ++ zeros 11]) := by decide +kernel

theorem test_ident : identFrame idc testConfig addr = .ok identOfAddr ∧
    identPayload addr = .ok (zeros 11 ++ [0xFF, 0xEE, 0xDD, 0xCC, 0xBB, 0xAA, 0, 0]) := by decide +kernel

theorem test_ack : buildFrame idc testConfig (ackBody [0x02, 0x11, 0x22, 0x33, 0x44]) = .ok ackOfG := by
  decide +kernel

theorem test_syncReq : syncFrame idc testConfig = .ok c4 ∧ refusalOf (exec .syncReq (freshWith syncless)) = some .noSync := by
  decide +kernel

theorem test_requestSync : got (requestSync idc fresh) State.txq = some [c4] ∧
    refusalOf (exec .requestSync off) = some .notConnected ∧
    refusalOf (exec .requestSync (freshWith syncless)) = some .noSync := by decide +kernel

theorem test_txDone : nextOf (exec .txDone { fresh with txq := [g, c4] }) State.txq = some [c4] ∧
    refusalOf (exec .txDone fresh) = some .txqEmpty := by decide +kernel

/-- Program C line 15. -/
theorem test_teardown :
    nextOf (exec .teardown { solvedSession with rxq := [g, g] }) id =
      some { solvedSession with fsm := .disconnected, txq := [] } ∧
    nextOf (exec .teardown off) id = some off := by decide +kernel

theorem test_transportError :
    nextOf (exec .transportError { solvedSession with rxq := [g] }) (fun t => (t.fsm, t.rxq, t.txq, t.evt.drop 2)) =
      some (.disconnected, [], [], [.error .transportError]) ∧
    nextOf (exec .transportError off) id = some off := by decide +kernel

/-- Program C lines 14 and 16. -/
theorem test_deliver : nextOf (exec (.deliver [0xFE]) { fresh with rxq := [g] }) State.rxq = some [g, [0xFE]] ∧
    nextOf (exec (.deliver g) off) id = some off := by decide +kernel

/-! ## The step -/

/-- A word of the table placed after reset is what the next step runs; without a session the message is discarded. -/
theorem test_step_word : nextOf (step (State.reset.withFetchWord 24 0xFE0002)) (fun t => (t.fsm, t.script)) =
    some (.disconnected, []) := by decide +kernel

theorem test_step_order :
    nextOf (step { fresh with script := [.line "TEARDOWN".toList, .line "RX".toList], rxq := [g] })
      (fun t => (t.fsm, t.script.length, t.rxq)) = some (.disconnected, 1, []) ∧
    nextOf (step { fresh with rxq := [List.replicate 15 0xFE] }) State.rxq = some [] ∧
    nextOf (step fresh) id = some fresh ∧
    refusalOf (step { fresh with script := [.line "JUMP".toList] }) = some (.undecodable .unknownWord) := by
  decide +kernel

/-! ## A witness for the hypotheses of each statement -/

theorem witness_DecryptDeciphersBlocksOrRaises : ([] : Bytes).length % 16 = 0 ∧ identOfAddr.length % 16 = 0 ∧
    (zeros 15).length % 16 ≠ 0 ∧ (zeros 17).length % 16 ≠ 0 := by decide +kernel

theorem witness_PaddingCannotBeToldFromData : ceil16 (([1, 2, 3] : Bytes).length + 13) = ceil16 ([1, 2, 3] : Bytes).length ∧
    ceil16 (([1, 2, 3] : Bytes).length + 1) = ceil16 ([1, 2, 3] : Bytes).length := by decide +kernel

theorem witness_BuilderGivesTheFrameImage : ([] : Bytes).length ≤ 251 ∧ (zeros 251).length ≤ 251 := by decide +kernel

theorem witness_BuiltFramePlaintextProperties :
    (2 ≤ ([0, 0] : Bytes).length ∧ ([0, 0] : Bytes).length ≤ 253) ∧ 2 ≤ (zeros 253).length ∧ (zeros 253).length ≤ 253 := by
  decide +kernel

theorem witness_BuildFrameDomain : ([0x07] : Bytes).length < 2 ∧ 253 < (zeros 254).length ∧
    (2 ≤ ([0, 0] : Bytes).length ∧ ([0, 0] : Bytes).length ≤ 253) ∧ 2 ≤ (zeros 253).length ∧ (zeros 253).length ≤ 253 := by
  decide +kernel

theorem witness_ParserAcceptsBuiltFrames : (2 ≤ ([0, 0] : Bytes).length ∧ ([0, 0] : Bytes).length ≤ 253) ∧
    ([0, 0] : Bytes).length = 2 ∧ 3 ≤ ([7, 0, 0] : Bytes).length ∧ (2 ≤ (zeros 253).length ∧ (zeros 253).length ≤ 253) := by
  decide +kernel

theorem witness_ParseFrameAnswersInCheckOrder : g.length % 16 = 0 ∧ ([] : Bytes).length % 16 = 0 ∧
    (g.take 15).length % 16 ≠ 0 := by decide +kernel

theorem witness_BuildAckEchoesTheHead : (g.take 6).length < 7 ∧ (g.take 7)[2]? = some 0x02 ∧ (g.take 7)[3]? = some 0x11 ∧
    (g.take 7)[4]? = some 0x22 ∧ (g.take 7)[5]? = some 0x33 ∧ (g.take 7)[6]? = some 0x44 := by decide +kernel

theorem witness_AckDoubleFramingYieldsTheAckBuffer : 7 ≤ (g.take 7).length ∧ 7 ≤ g.length := by decide +kernel

theorem witness_OutboundFramesHaveTheirLayouts : fresh.cfg.hasSync = true ∧ (freshWith syncless).cfg.hasSync = false := by
  decide +kernel

theorem witness_UnpackEmitsLowNibbleFirst : pk[0]? = some 0x33 ∧ pk[26]? = some 0x55 := by decide +kernel

theorem witness_PackJoinsPairsOrRefuses : s2.length = 54 ∧ s2[2 * 26]? = some 5 ∧ s2[2 * 26 + 1]? = some 0 ∧
    (s2.take 53).length ≠ 54 := by decide +kernel

theorem witness_PackAndUnpackAreInverse : s1.length = 54 ∧ pk.length = 27 := by decide +kernel

theorem witness_ComparatorAcceptsOnlyTheConstant : solvedImage[0]? = some 3 ∧ (1 : Nibble) ≠ 3 ∧
    solvedImage[53]? = some 5 ∧ (0 : Nibble) ≠ 5 := by decide +kernel

theorem witness_LettersFollowTheTable : (s1.take 53).length ≠ 54 ∧ (s1.length = 54 ∧ ∀ c ∈ s1, c.toNat ≤ 5) ∧
    (s1[53]? = some 5) ∧ (solvedImage.set 0 6).length = 54 ∧ (∃ c ∈ solvedImage.set 0 6, 5 < c.toNat) := by
  decide +kernel

theorem witness_HelloWritesReportsAndAcknowledges : fresh.fsm ≠ .disconnected ∧ matchesRow 0x02 36 g = true ∧
    trailerAccepted checkingConfig g = true ∧ trailerAccepted fresh.cfg (g.take 36) = true ∧
    matchesRow 0x02 36 (g.take 36) = true ∧ (g.take 36)[35]? = some 77 := by decide +kernel

theorem witness_MoveWritesLogsAndMayAcknowledge : solvedSession.fsm ≠ .disconnected ∧ matchesRow 0x03 36 m48 = true ∧
    trailerAccepted checkingConfig m48 = true ∧ trailerAccepted solvedSession.cfg (c2.take 36) = true ∧
    matchesRow 0x03 36 (c2.take 36) = true ∧ (c2.take 36)[35]? = some 79 ∧ m48[35]? = some 60 := by decide +kernel

theorem witness_SyncEchoWritesTheCubeOnly : fresh.fsm ≠ .disconnected ∧ matchesRow 0x04 34 c4 = true ∧
    trailerAccepted checkingConfig c4 = true ∧ trailerAccepted fresh.cfg (c4.take 34) = true ∧
    matchesRow 0x04 34 (c4.take 34) = true := by decide +kernel

theorem witness_DisconnectedDiscardsEveryMessage : off.fsm = .disconnected ∧ State.reset.fsm = .disconnected :=
  ⟨rfl, rfl⟩

theorem witness_MessageOfAnotherRowIsRefused :
    (fresh.fsm ≠ .disconnected ∧ acceptedFrame fresh.cfg m48 = true ∧ matchesRow 0x02 36 m48 = false ∧
      matchesRow 0x04 34 m48 = false) ∧
    acceptedFrame checkingConfig g = true ∧ matchesRow 0x03 36 g = false := by decide +kernel

theorem witness_DroppedFrameChangesNothing : acceptedFrame fresh.cfg (g.set 2 0x05) = false ∧
    acceptedFrame checkingConfig (g.set 36 0) = false ∧ acceptedFrame fresh.cfg (g.take 35) = false := by decide +kernel

theorem witness_AckPredicateIsFreeButForZero : (fun b : Byte => b == 0x01) 0x00 = false := by decide +kernel

/-- A `HELLO` that differs at 1 and 34, and a `SYNC_ECHO` that differs at 3, 34, 35 and above. -/
theorem witness_UnreadBytesDoNotMatter :
    let p' := (c4.set 3 0xAA).take 34 ++ List.replicate 14 0x99
    fresh.cfg.verifyRxCrc = false ∧
    (g.length = ((g.set 1 0xFF).set 34 0x07).length ∧
      ∀ j, readOffset fresh.cfg g j → g[j]? = ((g.set 1 0xFF).set 34 0x07)[j]?) ∧
    c4.length = p'.length ∧ ∀ j, readOffset fresh.cfg c4 j → c4[j]? = p'[j]? := by
  have hg : ¬ g[2]? = some 0x03 := by decide +kernel
  have h3 : ¬ c4[2]? = some 0x03 := by decide +kernel
  have h2 : ¬ c4[2]? = some 0x02 := by decide +kernel
  have ha : acksFor fresh.cfg c4 = [] := if_neg fun h => h.elim h2 fun h => h3 h.1
  refine ⟨rfl, ⟨rfl, fun j h => ?_⟩, by decide +kernel, fun j h => ?_⟩
  · have hj : j ≠ 1 ∧ j ≠ 34 := by
      rcases h with h | h | h | h | h | h
      all_goals first | exact absurd h.2 hg | omega
    rw [List.getElem?_set_ne (by omega), List.getElem?_set_ne (by omega)]
  · have hj : j < 34 ∧ j ≠ 3 := by
      rcases h with h | h | h | h | h | h
      all_goals first | exact absurd ha h.2.2 | exact absurd h.2 h3 | exact absurd h.2 (not_or.2 ⟨h2, h3⟩) | omega
    have ht : c4[j]? = (c4.take 34)[j]? := by rw [List.getElem?_take_of_lt hj.1]
    rw [List.getElem?_append_left (by simp [c4, pk]; omega), List.take_set, List.getElem?_set_ne (by omega), ht]

theorem witness_ConnectStartsAFreshSession : off.fsm = .disconnected ∧ fresh.fsm ≠ .disconnected := by decide +kernel

theorem witness_DeliverQueuesOrDiscards : fresh.fsm ≠ .disconnected ∧ off.fsm = .disconnected := by decide +kernel

theorem witness_RxTakesTheOldestBuffer :
    (({ fresh with rxq := [zeros 15, g] } : State).rxq = zeros 15 :: [g] ∧ (zeros 15).length % 16 ≠ 0) ∧
    (g.length % 16 = 0 ∧ ({ fresh with rxq := [encrypt Config.cipher testKey g] } : State).rxq =
      encrypt Config.cipher fresh.cfg.key g :: []) :=
  ⟨⟨rfl, by decide⟩, ⟨by decide, rfl⟩⟩

theorem witness_RxCompletesAndIsPrecise :
    let c := encrypt Config.cipher testKey g
    let d := encrypt Config.cipher testKey (g.set 2 0x05)
    let s : State := { fresh with rxq := [c] }
    let u : State := { fresh with rxq := [d] }
    (s.rxq = c :: [] ∧ c = encrypt Config.cipher s.cfg.key g ∧ g.length % 16 = 0 ∧ s.fsm ≠ .disconnected ∧
      acceptedFrame s.cfg g = true) ∧
    (({ fresh with rxq := [zeros 15] } : State).rxq = zeros 15 :: [] ∧ (zeros 15).length % 16 ≠ 0) ∧
    (({ off with rxq := [c] } : State).rxq = c :: [] ∧ ({ off with rxq := [c] } : State).fsm = .disconnected) ∧
    u.rxq = d :: [] ∧ ∃ p, d = encrypt Config.cipher u.cfg.key p ∧ p.length % 16 = 0 ∧ acceptedFrame u.cfg p = false :=
  ⟨⟨rfl, rfl, by decide, by decide, by decide +kernel⟩, ⟨rfl, by decide⟩, ⟨rfl, rfl⟩, rfl, _, rfl, by decide,
    by decide +kernel⟩

theorem witness_TxDoneRemovesTheHead : solvedSession.txq = ackOfG :: [] := rfl

theorem witness_StepsThatAreNotEnabledAreRefused : (fresh.rxq = [] ∧ fresh.txq = []) ∧ Inv off ∧ off.fsm = .disconnected :=
  ⟨⟨rfl, rfl⟩,
    { cubeLen := by decide, fresh := nofun, streamingCube := nofun, solvedFlag := by decide +kernel
      batteryCube := nofun, movesBattery := nofun, disconnectedQueues := by decide, frameLen := nofun
      events := nofun, movesReported := by decide, lastSnapshot := nofun }, rfl⟩

theorem witness_RequestSyncQueuesTheSyncFrame : (fresh.cfg.hasSync = true ∧ fresh.fsm ≠ .disconnected) ∧
    (off.cfg.hasSync = true ∧ off.fsm = .disconnected) ∧ (freshWith syncless).cfg.hasSync = false := by decide +kernel

theorem witness_SessionEndKeepsTheRegisters : solvedSession.fsm ≠ .disconnected ∧ off.fsm = .disconnected := by
  decide +kernel

/-- For every statement about `exec i s = next t`: a transition of each kind that leaves something to say. -/
theorem witness_next_states :
    exec .teardown solvedSession = .next { solvedSession with txq := [], fsm := .disconnected } ∧
    exec (.deliver g) fresh = .next { fresh with rxq := [g] } ∧
    exec .txDone solvedSession = .next { solvedSession with txq := [] } ∧
    exec .rx { fresh with rxq := [zeros 15] } = .next fresh ∧
    exec (.crc16 []) fresh = .next { fresh with out := .word 0xFFFF } := ⟨rfl, rfl, rfl, rfl, rfl⟩

/-- `FsmMovesOnlyByTheTable`. -/
theorem witness_FsmMovesOnlyByTheTable :
    exec .teardown solvedSession = .next { solvedSession with txq := [], fsm := .disconnected } := witness_next_states.1

/-- `EventsOnlyGrowAndConfigurationStays`. -/
theorem witness_EventsOnlyGrowAndConfigurationStays : exec .transportError fresh =
    .next { fresh with fsm := .disconnected, evt := [.error .transportError] } := rfl

/-- `MoveLogOnlyGrowsInASession`. -/
theorem witness_MoveLogOnlyGrowsInASession : exec .txDone solvedSession = .next { solvedSession with txq := [] } ∧
    ∀ a, Instr.txDone ≠ .connect a := ⟨rfl, fun _ => nofun⟩

/-- `QueuesAreFirstInFirstOut`. -/
theorem witness_QueuesAreFirstInFirstOut : exec (.deliver g) fresh = .next { fresh with rxq := [g] } :=
  witness_next_states.2.1

/-- `SessionIsOwnedByTheProtocol`: both clauses. -/
theorem witness_SessionIsOwnedByTheProtocol : exec (.deliver g) fresh = .next { fresh with rxq := [g] } ∧
    issuer (.deliver g) ≠ .block ∧ (∀ a, Instr.deliver g ≠ .connect a) ∧ ∃ c, Instr.deliver g = .deliver c :=
  ⟨rfl, nofun, fun _ => nofun, g, rfl⟩

/-- `UnitsWriteNothingButTheirAnswer`: a unit and an operation that is none. -/
theorem witness_UnitsWriteNothingButTheirAnswer :
    (exec (.crc16 []) fresh = .next { fresh with out := .word 0xFFFF } ∧ issuer (.crc16 []) = .unit) ∧
    exec (.deliver g) fresh = .next { fresh with rxq := [g] } ∧ issuer (.deliver g) ≠ .unit :=
  ⟨⟨rfl, rfl⟩, rfl, nofun⟩

theorem witness_DeliveryCommutesWithProcessing : fresh.fsm ≠ .disconnected ∧
    ({ fresh with rxq := [g] } : State).rxq ≠ [] := by decide +kernel

theorem witness_BuffersAreProcessedInArrivalOrder : fresh.fsm ≠ .disconnected ∧ fresh.rxq = [] := by decide +kernel

theorem witness_SolvedEdgesCountTheRises : fresh.fsm ≠ .disconnected ∧
    ∀ p ∈ [c1, c3, c2, c4, g], acceptedFrame fresh.cfg p = true := by decide +kernel

theorem witness_RunOfFramesGathersItsFields : fresh.fsm ≠ .disconnected ∧
    ∀ p ∈ [g, c2, c4], acceptedFrame fresh.cfg p = true := by decide +kernel

/-- The invariant holds of a session with something in it. -/
theorem solvedSession_inv : Inv solvedSession :=
  { cubeLen := by decide, fresh := nofun, streamingCube := by decide, solvedFlag := by decide +kernel
    batteryCube := by decide, movesBattery := by decide, disconnectedQueues := nofun, frameLen := by decide
    events := by decide, movesReported := by decide, lastSnapshot := by decide }

/-- The same with an operation in the script. -/
theorem witness_EveryStepKeepsTheInvariant :
    let s : State := { solvedSession with script := [.line kwTxDone] }
    Inv s ∧ step s = .next { solvedSession with txq := [] } :=
  ⟨{ solvedSession_inv with }, rfl⟩

theorem witness_StepRunsTheDecodedOperation :
    let s : State := { fresh with script := [.line kwTxDone], rxq := [g] }
    let dropped : State := { fresh with script := [.frame .inbound (g.take 35)] }
    let blank : State := { fresh with script := [.line [' ']] }
    let bad : State := { fresh with script := [.call .rx] }
    (s.script = .line kwTxDone :: [] ∧ decode (.line kwTxDone) = .ok .txDone) ∧
    (dropped.script = .frame .inbound (g.take 35) :: [] ∧
      decode (.frame .inbound (g.take 35)) = .error (.dropped (.formatError .tooShort))) ∧
    (blank.script = .line [' '] :: [] ∧ decode (.line [' ']) = .error .blankLine) ∧
    (bad.script = .call .rx :: [] ∧ decode (.call .rx) = .error .notFunctional) ∧
    (({ fresh with rxq := [g] } : State).script = [] ∧ ({ fresh with rxq := [g] } : State).rxq = g :: []) ∧
    fresh.script = [] ∧ fresh.rxq = [] := by decide +kernel

theorem witness_DecodeInvertsEncode : (Instr.syncEcho (c4.take 34)).wf = true ∧ (Instr.connect addr).wf = true := by
  decide +kernel

theorem witness_DecodedOperationsAreWellFormed : decode (.frame .inbound (c4.take 34)) = .ok (.syncEcho (c4.take 34)) := by
  decide +kernel

theorem witness_DispatcherFollowsTheOpcodeMap :
    (decode (.frame .inbound m48) = .ok (.move m48) ∧ trailerAccepted checkingConfig m48 = true) ∧
    decode (.frame .inbound (c2.take 35)) = .error (.dropped (.formatError .tooShort)) := by decide +kernel

end Sys2Proof.Tests
end

/-! The open parameter `ACK_PRED` of spec/00_scope.md R8: what the model's table form can express. -/

namespace Sys2Proof.Machine

/-- R8 fixes the predicate on `0x00`, whatever the table's bit 0. -/
theorem ackPred_zero (cfg : Config) : ackPred cfg 0x00 = false := rfl

/-- Off `0x00` the predicate is the table. -/
theorem ackPred_of_ne_zero (cfg : Config) {b : Byte} (hb : b ≠ 0x00) :
    ackPred cfg b = cfg.ackTrue.getLsbD b.toNat := by
  have htest : (b != 0) = true := bne_iff_ne.mpr hb
  rw [ackPred, htest, Bool.true_and]

/-- The table of a predicate on bytes: bit `b` is the predicate's value on the byte `b`. -/
def ackTable (f : Byte → Bool) : BitVec 256 := BitVec.ofFnLE fun i => f (BitVec.ofFin i)

/-- Reading a predicate's table at a byte gives the predicate back. -/
theorem getLsbD_ackTable (f : Byte → Bool) (b : Byte) : (ackTable f).getLsbD b.toNat = f b := by
  rw [ackTable, BitVec.getLsbD_ofFnLE, dif_pos b.isLt]
  rfl

/-- Configured with its own table, a predicate that is false on `0x00` is the configuration's predicate. -/
theorem ackPred_ackTable (cfg : Config) {f : Byte → Bool} (hzero : f 0x00 = false) (b : Byte) :
    ackPred { cfg with ackTrue := ackTable f } b = f b := by
  by_cases hb : b = 0x00
  · rw [hb, ackPred_zero, hzero]
  · rw [ackPred_of_ne_zero _ hb, getLsbD_ackTable]

/-- Settles O28: the configuration is the given one with the predicate's own table. -/
theorem ackPredicateIsFreeButForZero : Obligations.AckPredicateIsFreeButForZero :=
  ⟨ackPred_zero, fun cfg f hzero => ⟨ackTable f, ackPred_ackTable cfg hzero⟩⟩

end Sys2Proof.Machine

/-! What one accepted frame, one operation and one step can do to the state, each said once, and the rules over all
operations that follow from it (spec/10_state.md). -/

namespace Sys2Proof.Machine

/-! ## What one accepted frame does -/

/-- What an accepted frame brings: its facelets, and a battery byte, a move label and an acknowledgment where its row has
them (R178, R180, R183). -/
structure Acceptance where
  cube : List Nibble
  battery : Option Byte
  label : Option MoveLabel
  ack : Option Bytes
  cube_length : cube.length = nFacelets
  /-- Only a `MOVE` has a label, and a `MOVE` has a battery byte (R180). -/
  label_battery : label ≠ none → battery ≠ none
  /-- The acknowledgment is one cipher block (R77). -/
  ack_length : ∀ f ∈ ack, f.length = 16

/-- The events of an accepted frame, in the order of R177. -/
def Acceptance.report (a : Acceptance) (s : State) : List Event :=
  .stateUpdated a.cube (a.battery.or s.battery) ::
    (a.label.toList.map .moveRecognized ++ if isSolved a.cube && !s.wasSolved then [.solvedEdge] else [])

/-- The state after an accepted frame (R177). -/
def State.accept (s : State) (a : Acceptance) : State :=
  { s with
    fsm := .streaming
    cube := a.cube
    battery := a.battery.or s.battery
    moves := s.moves ++ a.label.toList
    wasSolved := isSolved a.cube
    txq := s.txq ++ a.ack.toList
    evt := s.evt ++ a.report s }

@[simp] theorem State.accept_fsm (s : State) (a : Acceptance) : (s.accept a).fsm = .streaming := rfl
@[simp] theorem State.accept_cube (s : State) (a : Acceptance) : (s.accept a).cube = a.cube := rfl
@[simp] theorem State.accept_battery (s : State) (a : Acceptance) :
    (s.accept a).battery = a.battery.or s.battery := rfl
@[simp] theorem State.accept_moves (s : State) (a : Acceptance) :
    (s.accept a).moves = s.moves ++ a.label.toList := rfl
@[simp] theorem State.accept_wasSolved (s : State) (a : Acceptance) : (s.accept a).wasSolved = isSolved a.cube := rfl
@[simp] theorem State.accept_rxq (s : State) (a : Acceptance) : (s.accept a).rxq = s.rxq := rfl
@[simp] theorem State.accept_txq (s : State) (a : Acceptance) : (s.accept a).txq = s.txq ++ a.ack.toList := rfl
@[simp] theorem State.accept_evt (s : State) (a : Acceptance) : (s.accept a).evt = s.evt ++ a.report s := rfl
@[simp] theorem State.accept_cfg (s : State) (a : Acceptance) : (s.accept a).cfg = s.cfg := rfl
@[simp] theorem State.accept_script (s : State) (a : Acceptance) : (s.accept a).script = s.script := rfl

/-- `SOLVED_EVAL` as one update (R185). -/
theorem solvedEval_eq (s : State) :
    solvedEval s = { s with
      evt := s.evt ++ (if solvedRises s then [.solvedEdge] else [])
      wasSolved := isSolved s.cube } := by
  unfold solvedEval
  split <;> simp [State.writeSolved, State.emit]

/-- Recording a move code as one update, for any code (R180, R181). -/
theorem recordMove_eq (s : State) (m : Byte) :
    recordMove s m = { s with
      moves := s.moves ++ (moveLabel m).toList
      evt := s.evt ++ (moveLabel m).toList.map .moveRecognized } := by
  unfold recordMove
  split <;> simp_all [State.logMove, State.emit]

/-- The length of a built frame on the wire (R112, R122). -/
theorem builtFrame_length (cph : Cipher) (key : Block) {body : Bytes} (h : 2 ≤ body.length) :
    (encrypt cph key (builtBuffer body)).length = ceil16 (body.length + 2) := by
  rw [encrypt_length, builtBuffer_length h, ceil16_of_mul (ceil16_spec _).2.2]

/-- An acknowledgment is one cipher block: 9 bytes padded to 16 (R77, R141). -/
theorem ackCipher_length (cph : Cipher) (cfg : Config) {p : Bytes} (h : 7 ≤ p.length) :
    (ackCipher cph cfg p).length = 16 := by
  have hhead : ((p.drop 2).take 5).length = 5 := by simp; omega
  have hbody : (ackBody ((p.drop 2).take 5)).length = 7 := by simp [ackBody_of_five hhead, hhead]
  rw [ackCipher, builtFrame_length cph cfg.key (by omega), hbody]
  rfl

/-- A handler on a buffer long enough for it accepts it: its next state is that of R177 for what the frame brings. -/
theorem handle_accepts (cph : Cipher) {k : MsgKind} {p : Bytes} (h : minLen k ≤ p.length) (s : State) :
    ∃ a : Acceptance, handle cph k p s = .ok (s.accept a) := by
  have h34 : 34 ≤ p.length := (minLen_ge k).trans h
  have hcube : (unpack ((p.drop 7).take 27)).length = nFacelets := unpack_facelets_length h34
  have hack : (ackCipher cph s.cfg p).length = 16 := ackCipher_length cph s.cfg (by omega)
  cases k with
  | hello =>
    have h36 : 36 ≤ p.length := h
    refine ⟨⟨_, some p[35], none, some (ackCipher cph s.cfg p), hcube, by simp, by simpa using hack⟩, ?_⟩
    rw [handle, hello_inside cph h36]
    simp [State.accept, Acceptance.report, solvedEval_eq, solvedRises, afterUpdate, emitUpdate, State.send,
      State.setFsm, State.emit, State.writeCube, State.writeBattery]
  | move =>
    have h36 : 36 ≤ p.length := h
    refine ⟨⟨_, some p[35], moveLabel p[34], if moveAcks s.cfg p then some (ackCipher cph s.cfg p) else none,
      hcube, by simp, by simpa using fun _ => hack⟩, ?_⟩
    rw [handle, move_inside cph h36]
    cases moveAcks s.cfg p <;>
      simp [State.accept, Acceptance.report, solvedEval_eq, recordMove_eq, solvedRises, afterUpdate, emitUpdate,
        State.send, State.setFsm, State.emit, State.writeCube, State.writeBattery]
  | syncEcho =>
    refine ⟨⟨_, none, none, none, hcube, by simp, by simp⟩, ?_⟩
    rw [handle, syncEcho_inside h34]
    simp [State.accept, Acceptance.report, solvedEval_eq, solvedRises, afterUpdate, emitUpdate, State.setFsm,
      State.emit, State.writeCube]

/-! ## What processing one plaintext does -/

/-- A plaintext is discarded or dropped, or a live session accepts it (R174, R206, R177). -/
inductive Processed (s : State) : State → Prop where
  | dropped : Processed s s
  | accepted (live : s.fsm ≠ .disconnected) (a : Acceptance) : Processed s (s.accept a)

/-- A handler called on a buffer long enough for it, in a live session. -/
theorem processed_of_handle {cph : Cipher} {k : MsgKind} {p : Bytes} {s t : State} (live : s.fsm ≠ .disconnected)
    (hlen : minLen k ≤ p.length) (h : recover s (handle cph k p s) = .next t) : Processed s t := by
  obtain ⟨a, ha⟩ := handle_accepts cph hlen s
  rw [ha, recover_ok] at h
  cases h
  exact .accepted live a

/-- What `DISPATCH` does (R176). -/
theorem processed_of_dispatch {cph : Cipher} {p : Bytes} {s t : State}
    (h : recover s (dispatch cph p s) = .next t) : Processed s t := by
  rcases dispatch_cases cph p s with ⟨_, hd⟩ | ⟨live, k, _, hlen, hd⟩ | ⟨_, e, _, hd⟩ <;> rw [hd] at h
  · cases h; exact .dropped
  · exact processed_of_handle live hlen h
  · cases h; exact .dropped

/-- What a message given as an operation does (R178, R180, R183; log 13). -/
theorem processed_of_message {cph : Cipher} {k : MsgKind} {p : Bytes} {s t : State}
    (h : recover s (message k p s (handle cph k p s)) = .next t) : Processed s t := by
  unfold message at h
  split at h
  · cases h; exact .dropped
  · next live =>
    rcases classify_ok_or_raised s.cfg p with ⟨k', _, _, _, _, hlen, _, hc⟩ | ⟨e, hc⟩ <;> rw [hc] at h
    · rw [Res.bind_ok] at h
      split at h
      · next hk => exact processed_of_handle live (hk ▸ hlen) h
      · cases h
    · cases h; exact .dropped

/-! ## What one operation does -/

/-- What an operation that answers a next state may have done, by the operation (R170 to R191). -/
inductive Effect : Instr → State → State → Prop where
  /-- A unit answers on the result port. -/
  | answered {i : Instr} {s : State} (unit : issuer i = .unit) (v : FuncResult) : Effect i s (s.setOut v)
  /-- A message or `DISPATCH`. -/
  | processed {i : Instr} {s t : State} (block : issuer i = .block) (h : Processed s t) : Effect i s t
  /-- `RX`: the head is removed first (R175). -/
  | received {s t : State} {c : Bytes} {rest : List Bytes} (queue : s.rxq = c :: rest)
      (h : Processed (s.setRxq rest) t) : Effect .rx s t
  /-- `CONNECT` (R172). -/
  | connected {s : State} (addr : Addr) {f : Bytes} (length : f.length = 32) :
      Effect (.connect addr) s ((s.newSession.send f).setFsm .handshaking)
  /-- `REQUEST_SYNC` (R190). -/
  | requested {s : State} (live : s.fsm ≠ .disconnected) {f : Bytes} (length : f.length = 48) :
      Effect .requestSync s (s.send f)
  /-- `TX_DONE` (R191). -/
  | transmitted {s : State} {f : Bytes} {rest : List Bytes} (queue : s.txq = f :: rest) :
      Effect .txDone s (s.setTxq rest)
  /-- `DELIVER` in a live session (R174). -/
  | delivered {s : State} (live : s.fsm ≠ .disconnected) (c : Bytes) :
      Effect (.deliver c) s (s.setRxq (s.rxq ++ [c]))
  /-- `TEARDOWN` in a live session (R188). -/
  | tornDown {s : State} (live : s.fsm ≠ .disconnected) : Effect .teardown s s.endSession
  /-- `TRANSPORT_ERROR` in a live session (R189). -/
  | failed {s : State} (live : s.fsm ≠ .disconnected) :
      Effect .transportError s (s.endSession.emit (.error .transportError))
  /-- The events of the ports are discarded in `Disconnected` (R174, R188, R189). -/
  | ignored {i : Instr} {s : State} (off : s.fsm = .disconnected) : Effect i s s

theorem effect_of_answer {i : Instr} {s t : State} {r : Res FuncResult} (unit : issuer i = .unit)
    (h : answer s r = .next t) : Effect i s t := by
  obtain ⟨v, rfl⟩ := answer_next h
  exact .answered unit v

theorem effect_of_rx {s t : State} (h : exec .rx s = .next t) : Effect .rx s t := by
  have h : rx Config.cipher s = .next t := h
  rcases rx_cases Config.cipher s with ⟨_, hr⟩ | ⟨c, rest, queue, ⟨_, hr⟩ | ⟨p, _, _, hr⟩⟩ <;> rw [hr] at h
  · cases h
  · cases h; exact .received queue .dropped
  · exact .received queue (processed_of_dispatch h)

theorem effect_of_connect {addr : Addr} {s t : State} (h : exec (.connect addr) s = .next t) :
    Effect (.connect addr) s t := by
  have h : recover s (connect Config.cipher addr s) = .next t := h
  unfold connect at h
  split at h
  · rw [identFrame_eq, Res.map_ok, recover_ok] at h
    cases h
    have hbody : (zeros 11 ++ reversedAddr addr ++ zeros 2).length = 19 := by simp
    refine .connected addr ?_
    rw [builtFrame_length _ _ (by omega), hbody]
    rfl
  · cases h

theorem effect_of_requestSync {s t : State} (h : exec .requestSync s = .next t) : Effect .requestSync s t := by
  have h : recover s (requestSync Config.cipher s) = .next t := h
  unfold requestSync at h
  split at h
  · cases h
  · next hsync =>
    split at h
    · cases h
    · next live =>
      rw [syncFrame_eq Config.cipher (by simpa using hsync), Res.map_ok, recover_ok] at h
      cases h
      have hbody : (fiveBytes s.cfg.syncHdr ++ packPairs solved ++ [0x00, 0x00]).length = 34 := by
        simp [pack_solved_length]
      refine .requested live ?_
      rw [builtFrame_length _ _ (by omega), hbody]
      rfl

theorem effect_of_txDone {s t : State} (h : exec .txDone s = .next t) : Effect .txDone s t := by
  have h : execTxDone s = .next t := h
  unfold execTxDone at h
  split at h
  · cases h
  · next queue => cases h; exact .transmitted queue

theorem effect_of_teardown {s t : State} (h : exec .teardown s = .next t) : Effect .teardown s t := by
  have h : execTeardown s = .next t := h
  unfold execTeardown at h
  split at h
  · next off => cases h; exact .ignored off
  · next live => cases h; exact .tornDown live

theorem effect_of_transportError {s t : State} (h : exec .transportError s = .next t) :
    Effect .transportError s t := by
  have h : execTransportError s = .next t := h
  unfold execTransportError at h
  split at h
  · next off => cases h; exact .ignored off
  · next live => cases h; exact .failed live

theorem effect_of_deliver {c : Bytes} {s t : State} (h : exec (.deliver c) s = .next t) :
    Effect (.deliver c) s t := by
  have h : execDeliver c s = .next t := h
  unfold execDeliver at h
  split at h
  · next off => cases h; exact .ignored off
  · next live => cases h; exact .delivered live c

/-- Everything an operation can do when it answers a next state. -/
theorem exec_effect {i : Instr} {s t : State} (h : exec i s = .next t) : Effect i s t := by
  cases i with
  | crc16 | crcStep | encrypt | decrypt | buildFrame | parseFrame | buildAck | unpack | pack | isSolved
  | toNotation | moveLabel | ident | ack | syncReq =>
    rw [exec] at h
    exact effect_of_answer rfl h
  | hello | move | syncEcho => exact .processed rfl (processed_of_message (cph := Config.cipher) h)
  | dispatch => exact .processed rfl (processed_of_dispatch h)
  | connect => exact effect_of_connect h
  | rx => exact effect_of_rx h
  | txDone => exact effect_of_txDone h
  | requestSync => exact effect_of_requestSync h
  | teardown => exact effect_of_teardown h
  | transportError => exact effect_of_transportError h
  | deliver => exact effect_of_deliver h

/-! ## The rules over all operations -/

/-- A plaintext adds to the event port and leaves configuration, script and inbound queue alone (R39). -/
theorem Processed.frame {s t : State} (h : Processed s t) :
    s.evt <+: t.evt ∧ t.cfg = s.cfg ∧ t.script = s.script ∧ t.rxq = s.rxq := by
  cases h with
  | dropped => simp
  | accepted live a => simp

/-- A plaintext adds at most one label to the move log (R180). -/
theorem Processed.moves {s t : State} (h : Processed s t) :
    ∃ l : Option MoveLabel, t.moves = s.moves ++ l.toList := by
  cases h with
  | dropped => exact ⟨none, by simp⟩
  | accepted live a => exact ⟨a.label, rfl⟩

/-- A plaintext adds at most one frame to the outbound queue (R186). -/
theorem Processed.txq {s t : State} (h : Processed s t) : ∃ f : Option Bytes, t.txq = s.txq ++ f.toList := by
  cases h with
  | dropped => exact ⟨none, by simp⟩
  | accepted live a => exact ⟨a.ack, rfl⟩

/-- Settles O39, by the effects of an operation. -/
theorem eventsOnlyGrowAndConfigurationStays : Obligations.EventsOnlyGrowAndConfigurationStays := by
  intro i s t h
  cases exec_effect h with
  | processed _ hp | received _ hp =>
    obtain ⟨hevt, hcfg, hscript, _⟩ := hp.frame
    exact ⟨hevt, hcfg, hscript⟩
  | answered | connected | requested | transmitted | delivered | tornDown | failed | ignored => simp

/-- Settles O40: only an accepted frame adds to the move log, and only `CONNECT` clears it. -/
theorem moveLogOnlyGrowsInASession : Obligations.MoveLogOnlyGrowsInASession := by
  intro i s t h hconnect
  cases exec_effect h with
  | processed _ hp | received _ hp =>
    obtain ⟨l, hl⟩ := hp.moves
    exact ⟨l.toList, hl, l.length_toList_le⟩
  | connected addr => exact absurd rfl (hconnect addr)
  | answered | requested | transmitted | delivered | tornDown | failed | ignored => exact ⟨[], by simp⟩

/-- Settles O41, by the effects of an operation. -/
theorem queuesAreFirstInFirstOut : Obligations.QueuesAreFirstInFirstOut := by
  intro i s t h
  cases exec_effect h with
  | processed _ hp =>
    obtain ⟨_, _, _, hrxq⟩ := hp.frame
    obtain ⟨f, hf⟩ := hp.txq
    exact ⟨.inl hrxq, .inl ⟨f.toList, hf, f.length_toList_le⟩⟩
  | received queue hp =>
    obtain ⟨_, _, _, hrxq⟩ := hp.frame
    obtain ⟨f, hf⟩ := hp.txq
    exact ⟨.inr (.inr (.inl ⟨_, rfl, by rw [queue, hrxq]; rfl⟩)), .inl ⟨f.toList, hf, f.length_toList_le⟩⟩
  | connected addr length => exact ⟨.inl rfl, .inl ⟨[_], rfl, le_rfl⟩⟩
  | requested live length => exact ⟨.inl rfl, .inl ⟨[_], rfl, le_rfl⟩⟩
  | transmitted queue => exact ⟨.inl rfl, .inr (.inl ⟨_, rfl, queue⟩)⟩
  | delivered live c => exact ⟨.inr (.inl ⟨c, rfl, rfl⟩), .inl ⟨[], by simp⟩⟩
  | tornDown | failed => simp
  | answered | ignored => exact ⟨.inl rfl, .inl ⟨[], by simp⟩⟩

/-- Settles O42: outside the block's operations and `CONNECT` no effect writes a Session register. -/
theorem sessionIsOwnedByTheProtocol : Obligations.SessionIsOwnedByTheProtocol := by
  intro i s t h
  cases exec_effect h with
  | processed block _ =>
    refine ⟨fun hblock => absurd block hblock, ?_⟩
    rintro (rfl | ⟨c, rfl⟩) <;> cases block
  | received => exact ⟨fun hblock => absurd rfl hblock, by simp⟩
  | connected addr => exact ⟨fun _ hconnect => absurd rfl (hconnect addr), by simp⟩
  | answered | requested | transmitted | delivered | tornDown | failed | ignored => simp [sameSession]

/-! ## The invariant -/

theorem reportedLabels_append (es fs : List Event) :
    reportedLabels (es ++ fs) = reportedLabels es ++ reportedLabels fs := by
  induction es with
  | nil => rfl
  | cons e es ih => cases e <;> simp [reportedLabels, ih]

theorem reportedSnapshots_append (es fs : List Event) :
    reportedSnapshots (es ++ fs) = reportedSnapshots es ++ reportedSnapshots fs := by
  induction es with
  | nil => rfl
  | cons e es ih => cases e <;> simp [reportedSnapshots, ih]

/-- An accepted frame reports the label it logs (R181). -/
theorem Acceptance.reportedLabels_report (a : Acceptance) (s : State) :
    reportedLabels (a.report s) = a.label.toList := by
  cases hl : a.label <;> simp [report, hl, reportedLabels] <;> split <;> rfl

/-- An accepted frame reports one snapshot, of the registers as it leaves them (R179). -/
theorem Acceptance.reportedSnapshots_report (a : Acceptance) (s : State) :
    reportedSnapshots (a.report s) = [(a.cube, a.battery.or s.battery)] := by
  cases hl : a.label <;> simp [report, hl, reportedSnapshots] <;> split <;> rfl

theorem Acceptance.allowed_of_mem_report {a : Acceptance} {s : State} {e : Event} (h : e ∈ a.report s) :
    e.allowed = true := by
  simp only [report, List.mem_cons, List.mem_append, List.mem_map] at h
  rcases h with rfl | ⟨l, _, rfl⟩ | h
  · simp [Event.allowed, a.cube_length]
  · rfl
  · split at h
    · obtain rfl := List.mem_singleton.mp h
      rfl
    · cases h

/-- An accepted frame keeps the invariant. -/
theorem Inv.accept {s : State} (h : Inv s) (a : Acceptance) : Inv (s.accept a) where
  cubeLen := .inr a.cube_length
  fresh := nofun
  streamingCube _ := a.cube_length
  solvedFlag := rfl
  batteryCube _ := a.cube_length
  movesBattery hmoves hnone := by
    obtain ⟨hbatt, hold⟩ := Option.or_eq_none_iff.mp hnone
    have hlog : s.moves = [] := not_not.mp fun hne => h.movesBattery hne hold
    have hlabel : a.label = none := not_not.mp fun hne => a.label_battery hne hbatt
    exact hmoves (by simp [hlog, hlabel])
  disconnectedQueues := nofun
  frameLen f hf := by
    rcases List.mem_append.mp hf with hold | hnew
    · exact h.frameLen f hold
    · exact .inl (a.ack_length f (by simpa using hnew))
  events e he := (List.mem_append.mp he).elim (h.events e) Acceptance.allowed_of_mem_report
  movesReported := by
    obtain ⟨before, hbefore⟩ := h.movesReported
    exact ⟨before, by
      simp [reportedLabels_append, Acceptance.reportedLabels_report, ← hbefore]⟩
  lastSnapshot _ := by simp [reportedSnapshots_append, Acceptance.reportedSnapshots_report]

theorem Inv.processed {s t : State} (h : Inv s) (hp : Processed s t) : Inv t := by
  cases hp with
  | dropped => exact h
  | accepted live a => exact h.accept a

/-- Removing the head of the inbound queue keeps the invariant. -/
theorem Inv.setRxq_tail {s : State} (h : Inv s) {c : Bytes} {rest : List Bytes} (queue : s.rxq = c :: rest) :
    Inv (s.setRxq rest) :=
  { h with
    disconnectedQueues := fun hf => by
      have hempty := (h.disconnectedQueues hf).1
      simp [queue] at hempty }

/-- Appending to the inbound queue of a live session keeps the invariant. -/
theorem Inv.setRxq_live {s : State} (h : Inv s) (live : s.fsm ≠ .disconnected) (q : List Bytes) :
    Inv (s.setRxq q) :=
  { h with disconnectedQueues := fun hf => absurd hf live }

/-- Removing the head of the outbound queue keeps the invariant. -/
theorem Inv.setTxq_tail {s : State} (h : Inv s) {f : Bytes} {rest : List Bytes} (queue : s.txq = f :: rest) :
    Inv (s.setTxq rest) :=
  { h with
    disconnectedQueues := fun hf => by
      have hempty := (h.disconnectedQueues hf).2
      simp [queue] at hempty
    frameLen := fun g hg => h.frameLen g (queue ▸ List.mem_cons_of_mem f hg) }

/-- Sending a frame of an allowed length in a live session keeps the invariant. -/
theorem Inv.send_live {s : State} (h : Inv s) (live : s.fsm ≠ .disconnected) {f : Bytes}
    (length : f.length = 16 ∨ f.length = 32 ∨ f.length = 48) : Inv (s.send f) :=
  { h with
    disconnectedQueues := fun hf => absurd hf live
    frameLen := List.forall_mem_append.mpr ⟨h.frameLen, List.forall_mem_singleton.mpr length⟩ }

/-- A fresh session with its identification frame meets the invariant (R172). -/
theorem Inv.newSession {s : State} (h : Inv s) {f : Bytes} (length : f.length = 32) :
    Inv ((s.newSession.send f).setFsm .handshaking) where
  cubeLen := .inl rfl
  fresh _ := ⟨rfl, rfl, rfl⟩
  streamingCube := nofun
  solvedFlag := isSolved_nil.symm
  batteryCube := nofun
  movesBattery := nofun
  disconnectedQueues := nofun
  frameLen := List.forall_mem_append.mpr ⟨h.frameLen, List.forall_mem_singleton.mpr (.inr (.inl length))⟩
  events := h.events
  movesReported := List.nil_suffix
  lastSnapshot := nofun

/-- Ending a session keeps the invariant (R188). -/
theorem Inv.endSession {s : State} (h : Inv s) : Inv s.endSession :=
  { h with
    fresh := nofun
    streamingCube := nofun
    disconnectedQueues := fun _ => ⟨rfl, rfl⟩
    frameLen := nofun
    lastSnapshot := nofun }

/-- Telling the host of a transport error keeps the invariant: it is allowed and reports no label and no snapshot (R36). -/
theorem Inv.emit_transportError {s : State} (h : Inv s) : Inv (s.emit (.error .transportError)) :=
  { h with
    events := List.forall_mem_append.mpr ⟨h.events, List.forall_mem_singleton.mpr rfl⟩
    movesReported := by simpa [reportedLabels_append, reportedLabels] using h.movesReported
    lastSnapshot := by simpa [reportedSnapshots_append, reportedSnapshots] using h.lastSnapshot }

/-- The script is no part of the invariant (log 1). -/
theorem Inv.setScript {s : State} (h : Inv s) (l : List Item) : Inv (s.setScript l) := { h with }

/-- The result port is no part of the invariant (log 2). -/
theorem Inv.setOut {s : State} (h : Inv s) (v : FuncResult) : Inv (s.setOut v) := { h with }

/-- Every operation keeps the invariant. -/
theorem Inv.exec_next {i : Instr} {s t : State} (h : Inv s) (he : exec i s = .next t) : Inv t := by
  cases exec_effect he with
  | answered _ v => exact h.setOut v
  | processed _ hp => exact h.processed hp
  | received queue hp => exact (h.setRxq_tail queue).processed hp
  | connected addr length => exact h.newSession length
  | requested live length => exact h.send_live live (.inr (.inr length))
  | transmitted queue => exact h.setTxq_tail queue
  | delivered live c => exact h.setRxq_live live _
  | tornDown => exact h.endSession
  | failed => exact h.endSession.emit_transportError
  | ignored => exact h

/-- Settles O51: a step runs an operation, moves the script or does nothing. -/
theorem everyStepKeepsTheInvariant : Obligations.EveryStepKeepsTheInvariant := by
  intro s t h hstep
  rcases step_eq_next hstep with ⟨_, rest, _, _, _, he⟩ | ⟨_, _, he⟩ | ⟨_, rest, _, _, _, rfl⟩ | ⟨_, _, rfl⟩
  · exact (h.setScript rest).exec_next he
  · exact h.exec_next he
  · exact h.setScript rest
  · exact h

/-- Settles O50. -/
theorem resetMeetsTheInvariant : Obligations.ResetMeetsTheInvariant where
  cubeLen := .inl rfl
  fresh := nofun
  streamingCube := nofun
  solvedFlag := isSolved_nil.symm
  batteryCube := nofun
  movesBattery := nofun
  disconnectedQueues _ := ⟨rfl, rfl⟩
  frameLen := nofun
  events := nofun
  movesReported := List.nil_suffix
  lastSnapshot := nofun

/-! ## Reset -/

/-- The default acknowledgment predicate: every byte but `0x00` (R8, log 5). -/
theorem ackPred_resetConfig (b : Byte) : ackPred resetConfig b = (b != 0x00) := by
  have hbit : resetConfig.ackTrue.getLsbD b.toNat = true := by
    simp only [resetConfig, BitVec.getLsbD_allOnes]
    exact decide_eq_true b.isLt
  rw [ackPred, hbit, Bool.and_true]

/-- With the script over and nothing queued the block is idle (R41). -/
theorem step_idle {s : State} (hscript : s.script = []) (hrxq : s.rxq = []) : step s = .next s := by
  simp [step, fetch, hscript, hrxq]

/-- Settles O49: the fields by their lemmas, the configuration by R8's defaults, the step as that of an idle block. -/
theorem resetIsDisconnectedAndIdle : Obligations.ResetIsDisconnectedAndIdle :=
  ⟨rfl, rfl, rfl, rfl, rfl, rfl, rfl, rfl, rfl, ackPred_resetConfig, rfl, rfl, rfl, rfl, rfl, step_idle rfl rfl⟩

end Sys2Proof.Machine

/-! The buffers of spec/20_memory.md: no access outside one, the order in which queued buffers are processed, and which
bytes of a plaintext have an effect. -/

namespace Sys2Proof.Machine

/-! ## No access outside a buffer (R62) -/

/-- The computation uses no primitive of R11 outside its domain. -/
def Res.Safe {α : Type} (r : Res α) : Prop := ∀ f, r ≠ .fault f

@[simp] theorem Res.safe_ok {α : Type} (a : α) : (Res.ok a).Safe := nofun

@[simp] theorem Res.safe_raised {α : Type} (e : BlockError) : (Res.raised e : Res α).Safe := nofun

@[simp] theorem Res.safe_refused {α : Type} (r : Refusal) : (Res.refused r : Res α).Safe := nofun

/-- A computation is safe when both its parts are. -/
theorem Res.Safe.bind {α β : Type} {x : Res α} {f : α → Res β} (hx : x.Safe) (hf : ∀ a, x = .ok a → (f a).Safe) :
    (x.bind f).Safe := by
  cases x with
  | ok a => exact hf a rfl
  | raised e => exact safe_raised e
  | refused r => exact safe_refused r
  | fault g => exact absurd rfl (hx g)

theorem Res.Safe.map {α β : Type} {x : Res α} (hx : x.Safe) (f : α → β) : (x.map f).Safe :=
  hx.bind fun a _ => safe_ok (f a)

/-- A step that recovers from a safe computation ends in no fault. -/
theorem recover_ne_fault {before : State} {r : Res State} (h : r.Safe) (f : Fault) : recover before r ≠ .fault f := by
  cases r with
  | fault g => exact absurd rfl (h g)
  | ok | raised | refused => nofun

/-- A unit that answers a safe computation ends in no fault. -/
theorem answer_ne_fault {s : State} {r : Res FuncResult} (h : r.Safe) (f : Fault) : answer s r ≠ .fault f := by
  cases r with
  | fault g => exact absurd rfl (h g)
  | ok | raised | refused => nofun

theorem decrypt_safe (cph : Cipher) (key : Block) (c : Bytes) : (decrypt cph key c).Safe := by
  rcases decrypt_cases cph key c with ⟨_, p, h, _⟩ | ⟨_, h⟩ <;> simp [h]

theorem buildFrame_safe (cph : Cipher) (cfg : Config) (body : Bytes) : (buildFrame cph cfg body).Safe := by
  rcases buildFrame_cases cph cfg body with ⟨_, _, h⟩ | ⟨_, h⟩ <;> simp [h]

theorem parsePlain_safe (cfg : Config) (p : Bytes) : (parsePlain cfg p).Safe := by
  rcases parsePlain_ok_or_raised cfg p with ⟨op, _, _, _, h⟩ | ⟨e, h⟩ <;> simp [h]

theorem parseFrame_safe (cph : Cipher) (cfg : Config) (c : Bytes) : (parseFrame cph cfg c).Safe :=
  (decrypt_safe cph cfg.key c).bind fun p _ => parsePlain_safe cfg p

theorem buildAck_safe (p : Bytes) : (buildAck p).Safe := by
  by_cases h : p.length < 7
  · simp [buildAck, h]
  · simp [buildAck_inside (Nat.le_of_not_lt h)]

theorem pack_safe (q : List Nibble) : (pack q).Safe := by
  unfold pack; split <;> simp

theorem toNotation_safe (q : List Nibble) : (toNotation q).Safe := by
  unfold toNotation
  split
  · simp
  · split <;> simp

theorem identFrame_safe (cph : Cipher) (cfg : Config) (a : Addr) : (identFrame cph cfg a).Safe := by
  simp [identFrame_eq]

theorem syncFrame_safe (cph : Cipher) (cfg : Config) : (syncFrame cph cfg).Safe := by
  cases h : cfg.hasSync
  · simp [syncFrame, h]
  · simp [syncFrame_eq cph h]

/-- A handler reads inside the buffers that are long enough for it (R62). -/
theorem handle_safe (cph : Cipher) {k : MsgKind} {p : Bytes} (hlen : minLen k ≤ p.length) (s : State) :
    (handle cph k p s).Safe := by
  obtain ⟨a, ha⟩ := handle_accepts cph hlen s
  simp [ha]

theorem dispatch_safe (cph : Cipher) (p : Bytes) (s : State) : (dispatch cph p s).Safe := by
  rcases dispatch_cases cph p s with ⟨_, h⟩ | ⟨_, k, _, hlen, h⟩ | ⟨_, e, _, h⟩ <;> rw [h]
  · simp
  · exact handle_safe cph hlen s
  · simp

theorem message_safe (cph : Cipher) (k : MsgKind) (p : Bytes) (s : State) :
    (message k p s (handle cph k p s)).Safe := by
  unfold message
  split
  · simp
  · rcases classify_ok_or_raised s.cfg p with ⟨k', _, _, _, _, hlen, _, h⟩ | ⟨e, h⟩ <;> rw [h]
    · rw [Res.bind_ok]
      split
      · next hk => exact handle_safe cph (hk ▸ hlen) s
      · simp
    · simp

theorem connect_safe (cph : Cipher) (a : Addr) (s : State) : (connect cph a s).Safe := by
  unfold connect
  split
  · exact (identFrame_safe cph s.cfg a).map _
  · simp

theorem requestSync_safe (cph : Cipher) (s : State) : (requestSync cph s).Safe := by
  unfold requestSync
  split
  · simp
  · split
    · simp
    · exact (syncFrame_safe cph s.cfg).map _

theorem rx_ne_fault (cph : Cipher) (s : State) (f : Fault) : rx cph s ≠ .fault f := by
  rcases rx_cases cph s with ⟨_, h⟩ | ⟨c, rest, _, ⟨_, h⟩ | ⟨p, _, _, h⟩⟩ <;> rw [h]
  · nofun
  · nofun
  · exact recover_ne_fault (dispatch_safe cph p _) f

/-- No operation ends in a fault. -/
theorem exec_ne_fault (i : Instr) (s : State) (f : Fault) : exec i s ≠ .fault f := by
  cases i with
  | crc16 | crcStep | encrypt | unpack | isSolved | moveLabel => exact answer_ne_fault (Res.safe_ok _) f
  | decrypt c => exact answer_ne_fault ((decrypt_safe _ _ c).map _) f
  | buildFrame body => exact answer_ne_fault ((buildFrame_safe _ _ body).map _) f
  | parseFrame c => exact answer_ne_fault ((parseFrame_safe _ _ c).map _) f
  | buildAck p => exact answer_ne_fault ((buildAck_safe p).map _) f
  | pack q => exact answer_ne_fault ((pack_safe q).map _) f
  | toNotation q => exact answer_ne_fault ((toNotation_safe q).map _) f
  | ident a => exact answer_ne_fault ((identFrame_safe _ _ a).map _) f
  | ack h => exact answer_ne_fault ((buildFrame_safe _ _ _).map _) f
  | syncReq => exact answer_ne_fault ((syncFrame_safe _ _).map _) f
  | hello p => exact recover_ne_fault (message_safe Config.cipher .hello p s) f
  | move p => exact recover_ne_fault (message_safe Config.cipher .move p s) f
  | syncEcho p => exact recover_ne_fault (message_safe Config.cipher .syncEcho p s) f
  | dispatch p => exact recover_ne_fault (dispatch_safe _ p s) f
  | connect a => exact recover_ne_fault (connect_safe _ a s) f
  | requestSync => exact recover_ne_fault (requestSync_safe _ s) f
  | rx => exact rx_ne_fault _ s f
  | txDone => rw [exec, execTxDone]; split <;> nofun
  | teardown => rw [exec, execTeardown]; split <;> nofun
  | transportError => rw [exec, execTransportError]; split <;> nofun
  | deliver c => rw [exec, execDeliver]; split <;> nofun

/-- Settles O44: a step ends as the operation it runs, or passes an entry, or refuses it. -/
theorem noAccessOutsideABuffer : Obligations.NoAccessOutsideABuffer := by
  refine ⟨exec_ne_fault, fun s f => ?_⟩
  unfold step
  split
  · exact exec_ne_fault _ _ f
  · nofun
  · nofun

/-! ## Processing one buffer, whatever else is queued (R66) -/

/-- The value of a computation, or the given one when it has none. -/
def Res.getD {α : Type} (r : Res α) (d : α) : α :=
  match r with
  | .ok a => a
  | .raised _ => d
  | .refused _ => d
  | .fault _ => d

theorem solvedEval_setRxq (s : State) (q : List Bytes) : solvedEval (s.setRxq q) = (solvedEval s).setRxq q := by
  simp [solvedEval_eq, solvedRises, State.setRxq]

theorem recordMove_setRxq (s : State) (m : Byte) (q : List Bytes) :
    recordMove (s.setRxq q) m = (recordMove s m).setRxq q := by
  simp [recordMove_eq, State.setRxq]

theorem afterUpdate_setRxq (s : State) (p : Bytes) (batt? : Option Byte) (q : List Bytes) :
    afterUpdate (s.setRxq q) p batt? = (afterUpdate s p batt?).setRxq q := by
  cases batt? <;> rfl

theorem send_setRxq (s : State) (f : Bytes) (q : List Bytes) : (s.setRxq q).send f = (s.send f).setRxq q := rfl

theorem setFsm_setRxq (s : State) (x : Fsm) (q : List Bytes) : (s.setRxq q).setFsm x = (s.setFsm x).setRxq q := rfl

/-- A handler neither reads nor writes the inbound queue. -/
theorem handle_setRxq (cph : Cipher) {k : MsgKind} {p : Bytes} (hlen : minLen k ≤ p.length) (s : State)
    (q : List Bytes) : handle cph k p (s.setRxq q) = (handle cph k p s).map (·.setRxq q) := by
  cases k with
  | hello =>
    simp only [handle, hello_inside cph hlen, afterUpdate_setRxq, solvedEval_setRxq, State.setRxq_cfg, send_setRxq,
      setFsm_setRxq, Res.map_ok]
  | move =>
    simp only [handle, move_inside cph hlen, afterUpdate_setRxq, recordMove_setRxq, solvedEval_setRxq,
      State.setRxq_cfg, send_setRxq, Res.map_ok]
    split <;> rfl
  | syncEcho =>
    simp only [handle, syncEcho_inside hlen, afterUpdate_setRxq, solvedEval_setRxq, setFsm_setRxq, Res.map_ok]

theorem dispatch_setRxq (cph : Cipher) (p : Bytes) (s : State) (q : List Bytes) :
    dispatch cph p (s.setRxq q) = (dispatch cph p s).map (·.setRxq q) := by
  unfold dispatch
  split
  · next off =>
    rw [State.setRxq_fsm] at off
    rw [if_pos off, Res.map_ok]
  · next live =>
    rw [State.setRxq_fsm] at live
    rw [if_neg live, State.setRxq_cfg]
    rcases classify_ok_or_raised s.cfg p with ⟨k, _, _, _, _, hlen, _, hc⟩ | ⟨e, hc⟩ <;> rw [hc]
    · exact handle_setRxq cph hlen s q
    · rfl

/-- Deciphering and dispatching a buffer neither reads nor writes the inbound queue. -/
theorem receive_setRxq (cph : Cipher) (c : Bytes) (s : State) (q : List Bytes) :
    receive cph c (s.setRxq q) = (receive cph c s).map (·.setRxq q) := by
  unfold receive
  rw [State.setRxq_cfg]
  cases decrypt cph s.cfg.key c with
  | ok p => exact dispatch_setRxq cph p s q
  | raised | refused | fault => rfl

/-- `DISPATCH` answers a state or raises; where it answers, a live session stays live (R171, R176). -/
theorem dispatch_ok_or_raised (cph : Cipher) (p : Bytes) (s : State) :
    (∃ t, dispatch cph p s = .ok t ∧ (s.fsm ≠ .disconnected → t.fsm ≠ .disconnected)) ∨
    ∃ e, dispatch cph p s = .raised e := by
  rcases dispatch_cases cph p s with ⟨_, h⟩ | ⟨_, k, _, hlen, h⟩ | ⟨_, e, _, h⟩
  · exact .inl ⟨s, h, id⟩
  · obtain ⟨a, ha⟩ := handle_accepts cph hlen s
    exact .inl ⟨s.accept a, h.trans ha, by simp⟩
  · exact .inr ⟨e, h⟩

theorem receive_ok_or_raised (cph : Cipher) (c : Bytes) (s : State) :
    (∃ t, receive cph c s = .ok t ∧ (s.fsm ≠ .disconnected → t.fsm ≠ .disconnected)) ∨
    ∃ e, receive cph c s = .raised e := by
  unfold receive
  rcases decrypt_cases cph s.cfg.key c with ⟨_, p, h, _⟩ | ⟨_, h⟩ <;> rw [h]
  · exact dispatch_ok_or_raised cph p s
  · exact .inr ⟨_, rfl⟩

/-- The state after one buffer is deciphered and dispatched, the inbound queue as it was: a dropped buffer changes nothing
(R175, R206). -/
def State.afterBuffer (s : State) (c : Bytes) : State := (receive Config.cipher c s).getD s

theorem setRxq_setRxq (s : State) (q r : List Bytes) : (s.setRxq q).setRxq r = s.setRxq r := rfl

theorem setRxq_of_rxq_eq {s : State} {q : List Bytes} (h : s.rxq = q) : s.setRxq q = s := by
  subst h; rfl

/-- One buffer neither reads nor writes the inbound queue. -/
theorem afterBuffer_setRxq (s : State) (c : Bytes) (q : List Bytes) :
    (s.setRxq q).afterBuffer c = (s.afterBuffer c).setRxq q := by
  unfold State.afterBuffer
  rw [receive_setRxq]
  cases receive Config.cipher c s <;> rfl

/-- A live session stays live over one buffer (R171). -/
theorem afterBuffer_live {s : State} (live : s.fsm ≠ .disconnected) (c : Bytes) :
    (s.afterBuffer c).fsm ≠ .disconnected := by
  unfold State.afterBuffer
  rcases receive_ok_or_raised Config.cipher c s with ⟨t, h, hlive⟩ | ⟨e, h⟩ <;> rw [h]
  · exact hlive live
  · exact live

/-- Any number of buffers neither read nor write the inbound queue. -/
theorem foldl_afterBuffer_setRxq (cs : List Bytes) (s : State) (q : List Bytes) :
    cs.foldl State.afterBuffer (s.setRxq q) = (cs.foldl State.afterBuffer s).setRxq q := by
  induction cs generalizing s with
  | nil => rfl
  | cons c cs ih => rw [List.foldl_cons, List.foldl_cons, afterBuffer_setRxq, ih]

/-- `RX` with a buffer queued: that buffer is processed, the rest of the queue stays (R175). -/
theorem exec_rx_cons {s : State} {c : Bytes} {rest : List Bytes} (queue : s.rxq = c :: rest) :
    exec .rx s = .next ((s.afterBuffer c).setRxq rest) := by
  have hrx : exec .rx s = recover (s.setRxq rest) ((receive Config.cipher c s).map (·.setRxq rest)) := by
    rw [← receive_setRxq, exec, execRx, rx, queue]
  rw [hrx, State.afterBuffer]
  rcases receive_ok_or_raised Config.cipher c s with ⟨t, h, _⟩ | ⟨e, h⟩ <;> rw [h] <;> rfl

/-- `DELIVER` in a live session (R174). -/
theorem exec_deliver_live {s : State} (live : s.fsm ≠ .disconnected) (c : Bytes) :
    exec (.deliver c) s = .next (s.setRxq (s.rxq ++ [c])) := by
  rw [exec, execDeliver, if_neg live]

/-! ## Runs of deliveries and `RX` (R66, R235) -/

@[simp] theorem runAll_nil (s : State) : runAll [] s = .next s := rfl

theorem runAll_cons {i : Instr} {s t : State} (h : exec i s = .next t) (is : List Instr) :
    runAll (i :: is) s = runAll is t := by
  rw [runAll, h]

theorem runAll_append {is : List Instr} {s t : State} (h : runAll is s = .next t) (js : List Instr) :
    runAll (is ++ js) s = runAll js t := by
  induction is generalizing s with
  | nil => cases h; rfl
  | cons i is ih =>
    rw [List.cons_append]
    cases he : exec i s with
    | next u => rw [runAll_cons he] at h ⊢; exact ih h
    | fault | refused => simp [runAll, he] at h

/-- Settles O45: both orders process the head and leave the rest of the queue with the new buffer behind it. -/
theorem deliveryCommutesWithProcessing : Obligations.DeliveryCommutesWithProcessing := by
  intro s c live hne
  obtain ⟨c0, rest, queue⟩ := List.exists_cons_of_ne_nil hne
  refine ⟨(s.afterBuffer c0).setRxq (rest ++ [c]), ?_, ?_⟩
  · have hqueue : (s.setRxq (s.rxq ++ [c])).rxq = c0 :: (rest ++ [c]) := by simp [queue]
    rw [runAll_cons (exec_deliver_live live c), runAll_cons (exec_rx_cons hqueue), afterBuffer_setRxq,
      setRxq_setRxq, runAll_nil]
  · have hlive : ((s.afterBuffer c0).setRxq rest).fsm ≠ .disconnected := afterBuffer_live live c0
    rw [runAll_cons (exec_rx_cons queue), runAll_cons (exec_deliver_live hlive c), State.setRxq_rxq, setRxq_setRxq,
      runAll_nil]

/-- Deliveries to a live session queue their buffers in order (R174). -/
theorem runAll_deliver (cs : List Bytes) {s : State} (live : s.fsm ≠ .disconnected) :
    runAll (cs.map .deliver) s = .next (s.setRxq (s.rxq ++ cs)) := by
  induction cs generalizing s with
  | nil => rw [List.append_nil, setRxq_of_rxq_eq rfl]; rfl
  | cons c cs ih =>
    have hlive : (s.setRxq (s.rxq ++ [c])).fsm ≠ .disconnected := live
    rw [List.map_cons, runAll_cons (exec_deliver_live live c), ih hlive, setRxq_setRxq, State.setRxq_rxq,
      List.append_assoc, List.singleton_append]

/-- As many `RX` as there are buffers process the queue from its head (R175). -/
theorem runAll_rx {cs : List Bytes} {s : State} (queue : s.rxq = cs) :
    runAll (List.replicate cs.length .rx) s = .next ((cs.foldl State.afterBuffer s).setRxq []) := by
  induction cs generalizing s with
  | nil => rw [List.foldl_nil, setRxq_of_rxq_eq queue]; rfl
  | cons c cs ih =>
    rw [List.length_cons, List.replicate_succ, runAll_cons (exec_rx_cons queue), ih rfl, foldl_afterBuffer_setRxq,
      setRxq_setRxq, List.foldl_cons]

/-- `DELIVER` and then `RX`, from an empty queue, process the delivered buffer (R174, R175). -/
theorem runAll_deliver_rx {s : State} (live : s.fsm ≠ .disconnected) (queue : s.rxq = []) (c : Bytes)
    (is : List Instr) : runAll (.deliver c :: .rx :: is) s = runAll is ((s.afterBuffer c).setRxq []) := by
  have hqueue : (s.setRxq (s.rxq ++ [c])).rxq = [c] := by simp [queue]
  rw [runAll_cons (exec_deliver_live live c), runAll_cons (exec_rx_cons hqueue), afterBuffer_setRxq, setRxq_setRxq]

/-- Delivering and processing one buffer at a time, from an empty queue, processes them in order. -/
theorem runAll_deliverEach (cs : List Bytes) {s : State} (live : s.fsm ≠ .disconnected) (queue : s.rxq = []) :
    runAll (deliverEach cs) s = .next ((cs.foldl State.afterBuffer s).setRxq []) := by
  induction cs generalizing s with
  | nil => rw [List.foldl_nil, setRxq_of_rxq_eq queue]; rfl
  | cons c cs ih =>
    have hlive : ((s.afterBuffer c).setRxq []).fsm ≠ .disconnected := afterBuffer_live live c
    rw [deliverEach, runAll_deliver_rx live queue, ih hlive rfl, foldl_afterBuffer_setRxq, setRxq_setRxq,
      List.foldl_cons]

/-- Settles O46: both runs process the buffers in arrival order and end with an empty queue. -/
theorem buffersAreProcessedInArrivalOrder : Obligations.BuffersAreProcessedInArrivalOrder := by
  intro s cs live queue
  refine ⟨(cs.foldl State.afterBuffer s).setRxq [], ?_, runAll_deliverEach cs live queue⟩
  have hqueue : (s.setRxq (s.rxq ++ cs)).rxq = cs := by simp [queue]
  rw [runAll_append (runAll_deliver cs live), runAll_rx hqueue, foldl_afterBuffer_setRxq, setRxq_setRxq]

/-! ## The bytes that have an effect (R53, R63) -/

/-- The opcode of a message (R80). -/
def opcodeOf (k : MsgKind) : Byte :=
  match k with
  | .hello => opHello
  | .move => opMove
  | .syncEcho => opSync

theorem kindOf_eq_some {op : Byte} {k : MsgKind} : kindOf op = some k ↔ op = opcodeOf k := by
  constructor
  · intro h
    unfold kindOf at h
    split_ifs at h with h2 h3 h4 <;> cases h <;> assumption
  · rintro rfl
    cases k <;> rfl

theorem selectHandler_congr {p p' : Bytes} (op : Byte) (hlen : p.length = p'.length) :
    selectHandler op p = selectHandler op p' := by
  unfold selectHandler; rw [hlen]

theorem memReadByte_congr {p p' : Bytes} {j : Nat} (h : p[j]? = p'[j]?) : memReadByte p j = memReadByte p' j := by
  unfold memReadByte; rw [h]

/-- Without the trailer check the checks of R130 see the length, the marker and the opcode only. -/
theorem classify_congr {cfg : Config} {p p' : Bytes} (hcrc : cfg.verifyRxCrc = false) (hlen : p.length = p'.length)
    (h0 : p[0]? = p'[0]?) (h2 : p[2]? = p'[2]?) : classify cfg p = classify cfg p' := by
  have hmarker : checkMarker p = checkMarker p' := by
    unfold checkMarker; rw [hlen, memReadByte_congr (j := offMarker) h0]
  have hop : memReadByte p offOpcode = memReadByte p' offOpcode := memReadByte_congr h2
  unfold classify parsePlain
  rw [hmarker, hlen, hop, hcrc]
  cases checkMarker p' with
  | ok =>
    rw [Res.bind_ok, Res.bind_ok]
    split
    · rfl
    · cases memReadByte p' offOpcode with
      | ok op => exact selectHandler_congr op hlen
      | raised | refused | fault => rfl
  | raised | refused | fault => rfl

/-- Two buffers that agree on a range of offsets hold the same bytes there. -/
theorem slice_congr {p p' : Bytes} {a n : Nat} (h : ∀ j, a ≤ j → j < a + n → p[j]? = p'[j]?) :
    (p.drop a).take n = (p'.drop a).take n := by
  refine List.ext_getElem? fun i => ?_
  rw [List.getElem?_take, List.getElem?_take]
  split
  · rw [List.getElem?_drop, List.getElem?_drop]
    exact h (a + i) (by omega) (by omega)
  · rfl

theorem getElem_congr_of_getElem? {p p' : Bytes} {j : Nat} (hj : j < p.length) (hj' : j < p'.length)
    (h : p[j]? = p'[j]?) : p[j] = p'[j] := by
  rwa [List.getElem?_eq_getElem hj, List.getElem?_eq_getElem hj', Option.some_inj] at h

theorem afterUpdate_congr {p p' : Bytes} (hface : (p.drop 7).take 27 = (p'.drop 7).take 27) (s : State)
    (batt? : Option Byte) : afterUpdate s p batt? = afterUpdate s p' batt? := by
  unfold afterUpdate; rw [hface]

theorem ackCipher_congr {p p' : Bytes} (hhead : (p.drop 2).take 5 = (p'.drop 2).take 5) (cph : Cipher)
    (cfg : Config) : ackCipher cph cfg p = ackCipher cph cfg p' := by
  unfold ackCipher; rw [hhead]

theorem moveAcks_congr {p p' : Bytes} (h : p[91]? = p'[91]?) (cfg : Config) : moveAcks cfg p = moveAcks cfg p' := by
  unfold moveAcks; rw [h]

/-- A `HELLO` reads the ack head, the facelets and the battery byte (R178). -/
theorem hello_congr (cph : Cipher) {p p' : Bytes} (s : State) (hlen : 36 ≤ p.length) (hlen' : 36 ≤ p'.length)
    (hface : (p.drop 7).take 27 = (p'.drop 7).take 27) (hbatt : p[35]? = p'[35]?)
    (hhead : (p.drop 2).take 5 = (p'.drop 2).take 5) : hello cph p s = hello cph p' s := by
  rw [hello_inside cph hlen, hello_inside cph hlen', getElem_congr_of_getElem? (by omega) (by omega) hbatt,
    afterUpdate_congr hface, ackCipher_congr hhead]

/-- A `MOVE` reads the facelets, the move code, the battery byte and the flag at 91, and the ack head when that flag calls
for an acknowledgment (R180, R182). -/
theorem move_congr (cph : Cipher) {p p' : Bytes} (s : State) (hlen : 36 ≤ p.length) (hlen' : 36 ≤ p'.length)
    (hface : (p.drop 7).take 27 = (p'.drop 7).take 27) (hmove : p[34]? = p'[34]?) (hbatt : p[35]? = p'[35]?)
    (hflag : p[91]? = p'[91]?)
    (hhead : moveAcks s.cfg p = true → (p.drop 2).take 5 = (p'.drop 2).take 5) : move cph p s = move cph p' s := by
  rw [move_inside cph hlen, move_inside cph hlen', getElem_congr_of_getElem? (by omega) (by omega) hbatt,
    getElem_congr_of_getElem? (by omega) (by omega) hmove, afterUpdate_congr hface, ← moveAcks_congr hflag]
  cases hacks : moveAcks s.cfg p
  · rfl
  · rw [ackCipher_congr (hhead hacks)]

/-- A `SYNC_ECHO` reads the facelets (R183). -/
theorem syncEcho_congr {p p' : Bytes} (s : State) (hlen : 34 ≤ p.length) (hlen' : 34 ≤ p'.length)
    (hface : (p.drop 7).take 27 = (p'.drop 7).take 27) : syncEcho p s = syncEcho p' s := by
  rw [syncEcho_inside hlen, syncEcho_inside hlen', afterUpdate_congr hface]

theorem acksFor_hello (cfg : Config) {p : Bytes} (hop : p[2]? = some 0x02) : acksFor cfg p ≠ [] := by
  simp [acksFor, hop]

theorem acksFor_move {cfg : Config} {p : Bytes} (hop : p[2]? = some 0x03) (hacks : moveAcks cfg p = true) :
    acksFor cfg p ≠ [] := by
  unfold moveAcks at hacks
  cases hflag : p[91]? with
  | none => simp [hflag] at hacks
  | some b =>
    have hpred : ackPred cfg b = true := by simpa [hflag] using hacks
    simp [acksFor, hop, hflag, hpred]

/-- The ack heads agree where an acknowledgment is built: bytes 3 to 6 are read then, byte 2 always. -/
theorem ackHead_congr {cfg : Config} {p p' : Bytes} (h : ∀ j, readOffset cfg p j → p[j]? = p'[j]?)
    (hacks : acksFor cfg p ≠ []) : (p.drop 2).take 5 = (p'.drop 2).take 5 := by
  refine slice_congr fun j hlo hhi => h j ?_
  obtain rfl | hj : j = 2 ∨ 3 ≤ j := by omega
  · exact .inr (.inl rfl)
  · exact .inr (.inr (.inl ⟨hj, hhi, hacks⟩))

/-- The facelets of a recognized message are read. -/
theorem facelets_congr {cfg : Config} {p p' : Bytes} (h : ∀ j, readOffset cfg p j → p[j]? = p'[j]?)
    (hop : p[2]? = some 0x02 ∨ p[2]? = some 0x03 ∨ p[2]? = some 0x04) :
    (p.drop 7).take 27 = (p'.drop 7).take 27 :=
  slice_congr fun j hlo hhi => h j (.inr (.inr (.inr (.inl ⟨hlo, hhi, hop⟩))))

/-- The handler of a recognized message has the same effect on two buffers that agree on the offsets read. -/
theorem handle_congr (cph : Cipher) {k : MsgKind} {p p' : Bytes} (s : State) (hlen : p.length = p'.length)
    (hmin : minLen k ≤ p.length) (hop : p[2]? = some (opcodeOf k))
    (h : ∀ j, readOffset s.cfg p j → p[j]? = p'[j]?) : handle cph k p s = handle cph k p' s := by
  have hmin' : minLen k ≤ p'.length := hlen ▸ hmin
  cases k with
  | hello =>
    have hop : p[2]? = some 0x02 := hop
    exact hello_congr cph s hmin hmin' (facelets_congr h (.inl hop))
      (h 35 (by simp [readOffset, hop])) (ackHead_congr h (acksFor_hello s.cfg hop))
  | move =>
    have hop : p[2]? = some 0x03 := hop
    exact move_congr cph s hmin hmin' (facelets_congr h (.inr (.inl hop)))
      (h 34 (by simp [readOffset, hop])) (h 35 (by simp [readOffset, hop])) (h 91 (by simp [readOffset, hop]))
      fun hacks => ackHead_congr h (acksFor_move hop hacks)
  | syncEcho =>
    have hop : p[2]? = some 0x04 := hop
    exact syncEcho_congr s hmin hmin' (facelets_congr h (.inr (.inr hop)))

/-- Settles O29: the checks agree, and so does the handler of the message they accept. -/
theorem unreadBytesDoNotMatter : Obligations.UnreadBytesDoNotMatter := by
  intro s p p' hcrc hlen h
  have hclassify : classify s.cfg p = classify s.cfg p' :=
    classify_congr hcrc hlen (h 0 (.inl rfl)) (h 2 (.inr (.inl rfl)))
  rw [exec, exec, execDispatch, execDispatch, dispatch, dispatch, ← hclassify]
  rcases classify_ok_or_raised s.cfg p with ⟨k, op, _, hop, hk, hmin, _, hc⟩ | ⟨e, hc⟩ <;> rw [hc]
  · have hop : p[2]? = some (opcodeOf k) := by rw [hop, kindOf_eq_some.mp hk]
    rw [Res.bind_ok, Res.bind_ok, handle_congr Config.cipher s hlen hmin hop h]
  · rfl

end Sys2Proof.Machine

/-! The encoding (spec/30_encoding.md): the encoder's texts and frames as the decoder reads them, what each part of the
decoder yields, and the frames the block builds as the layouts print them. -/

namespace Sys2Proof

open Machine

/-! ## Hexadecimal digits (R85) -/

@[simp] theorem hexVal_hexDigit (n : Nibble) : hexVal (hexDigit n) = some n.toNat := by
  revert n; decide

/-- A byte from the numbers its two nibbles are. -/
theorem ofNat_nibbles (b : Byte) : BitVec.ofNat 8 (16 * (hiNibble b).toNat + (loNibble b).toNat) = b := by
  have hb : b.toNat < 256 := b.isLt
  apply BitVec.eq_of_toNat_eq
  simp only [hiNibble, loNibble, BitVec.toNat_ofNat, BitVec.extractLsb'_toNat, Nat.shiftRight_eq_div_pow]
  omega

theorem parseByte_hexByte (b : Byte) : parseByte (hexByte b) = some b := by
  simp [hexByte, parseByte, ofNat_nibbles]

theorem parseBytes_map_hexByte (bs : Bytes) : parseBytes (bs.map hexByte) = some bs := by
  induction bs with
  | nil => rfl
  | cons b bs ih => simp [parseBytes, parseByte_hexByte, ih]

/-- A character that is no hexadecimal digit does not occur in a written byte. -/
theorem not_mem_hexByte {c : Char} (hc : hexVal c = none) (b : Byte) : c ∉ hexByte b := by
  have hne (n : Nibble) : c ≠ hexDigit n := by
    rintro rfl
    simp at hc
  simp [hexByte, hne]

/-! ## Words of a line (R85) -/

/-- A text without the separator is one piece. -/
theorem splitOn_of_not_mem {sep : Char} {w : List Char} (h : sep ∉ w) : splitOn sep w = [w] := by
  induction w with
  | nil => rfl
  | cons c w ih =>
    obtain ⟨hc, hw⟩ := not_or.mp (mt List.mem_cons.mpr h)
    simp [splitOn, ih hw, Ne.symm hc]

/-- The piece before the first separator. -/
theorem splitOn_append_cons {sep : Char} {w : List Char} (h : sep ∉ w) (text : List Char) :
    splitOn sep (w ++ sep :: text) = w :: splitOn sep text := by
  induction w with
  | nil => simp [splitOn]
  | cons c w ih =>
    obtain ⟨hc, hw⟩ := not_or.mp (mt List.mem_cons.mpr h)
    simp [splitOn, ih hw, Ne.symm hc]

/-- A word of a line: not empty, and without the characters that would cut it or begin a comment. -/
structure IsWord (w : List Char) : Prop where
  ne_nil : w ≠ []
  no_space : ' ' ∉ w
  no_comment : ';' ∉ w

theorem isWord_hexByte (b : Byte) : IsWord (hexByte b) :=
  ⟨by simp [hexByte], not_mem_hexByte rfl b, not_mem_hexByte rfl b⟩

theorem isWord_addrText (a : Addr) : IsWord (addrText a) :=
  ⟨by simp [addrText, hexByte], by simp [addrText, not_mem_hexByte (c := ' ') rfl],
    by simp [addrText, not_mem_hexByte (c := ';') rfl]⟩

/-- Words with a space before each, cut at the spaces. -/
theorem splitOn_spaced {w : List Char} {ws : List (List Char)} (hw : IsWord w) (hws : ∀ v ∈ ws, IsWord v) :
    splitOn ' ' (w ++ ws.flatMap (' ' :: ·)) = w :: ws := by
  induction ws generalizing w with
  | nil => simpa using splitOn_of_not_mem hw.no_space
  | cons v ws ih =>
    obtain ⟨hv, hws⟩ := List.forall_mem_cons.mp hws
    rw [List.flatMap_cons, List.cons_append, splitOn_append_cons hw.no_space, ih hv hws]

/-- A line written as words with a space before each but the first has these words. -/
theorem lineWords_spaced {w : List Char} {ws : List (List Char)} (hw : IsWord w) (hws : ∀ v ∈ ws, IsWord v) :
    lineWords (w ++ ws.flatMap (' ' :: ·)) = w :: ws := by
  have hwords : ∀ v ∈ w :: ws, IsWord v := List.forall_mem_cons.mpr ⟨hw, hws⟩
  have hcomment : ∀ c ∈ w ++ ws.flatMap (' ' :: ·), c ≠ ';' := by
    intro c hc
    rcases List.mem_append.mp hc with hc | hc
    · exact ne_of_mem_of_not_mem hc hw.no_comment
    · obtain ⟨v, hv, hc⟩ := List.mem_flatMap.mp hc
      rcases List.mem_cons.mp hc with rfl | hc
      · decide
      · exact ne_of_mem_of_not_mem hc (hws v hv).no_comment
  rw [lineWords, List.takeWhile_eq_self_iff.mpr (by simpa using hcomment), splitOn_spaced hw hws,
    List.filter_eq_self.mpr (by simpa using fun v hv => (hwords v hv).ne_nil)]

theorem spacedBytes_eq_flatMap (bs : Bytes) : spacedBytes bs = (bs.map hexByte).flatMap (' ' :: ·) := by
  induction bs with
  | nil => rfl
  | cons b bs ih => simp [spacedBytes, ih]

/-- A keyword followed by bytes (R85). -/
theorem lineWords_spacedBytes {kw : List Char} (hkw : IsWord kw) (bs : Bytes) :
    lineWords (kw ++ spacedBytes bs) = kw :: bs.map hexByte := by
  rw [spacedBytes_eq_flatMap, lineWords_spaced hkw (by simpa using fun b _ => isWord_hexByte b)]

/-- A keyword followed by an address (R85). -/
theorem lineWords_addrText {kw : List Char} (hkw : IsWord kw) (a : Addr) :
    lineWords (kw ++ ' ' :: addrText a) = [kw, addrText a] := by
  have h := lineWords_spaced hkw (List.forall_mem_singleton.mpr (isWord_addrText a))
  rwa [List.flatMap_singleton] at h

/-- An address is cut at its colons into its six bytes. -/
theorem parseAddr_addrText (a : Addr) : parseAddr (addrText a) = some a := by
  have hcolon := not_mem_hexByte (c := ':') rfl
  have hsplit : splitOn ':' (addrText a) = [a.a0, a.a1, a.a2, a.a3, a.a4, a.a5].map hexByte := by
    simp only [addrText, List.append_assoc, List.cons_append, splitOn_append_cons (hcolon _),
      splitOn_of_not_mem (hcolon _), List.map_cons, List.map_nil]
  rw [parseAddr, hsplit, parseBytes_map_hexByte]

/-! ## Lines (R85) -/

theorem isWord_kwConnect : IsWord kwConnect := ⟨by decide, by decide, by decide⟩

theorem isWord_kwDeliver : IsWord kwDeliver := ⟨by decide, by decide, by decide⟩

theorem isWord_kwRxp : IsWord kwRxp := ⟨by decide, by decide, by decide⟩

theorem bytesOperand_map_hexByte (f : Bytes → Instr) (bs : Bytes) : bytesOperand f (bs.map hexByte) = .ok (f bs) := by
  rw [bytesOperand, parseBytes_map_hexByte]

theorem decodeLine_connect (a : Addr) : decodeLine (kwConnect ++ ' ' :: addrText a) = .ok (.connect a) := by
  simp [decodeLine, lineWords_addrText isWord_kwConnect, parseAddr_addrText]

theorem decodeLine_deliver (c : Bytes) : decodeLine (kwDeliver ++ spacedBytes c) = .ok (.deliver c) := by
  have hne : kwDeliver ≠ kwConnect := by decide
  simp [decodeLine, lineWords_spacedBytes isWord_kwDeliver, hne, bytesOperand_map_hexByte]

theorem decodeLine_dispatch (p : Bytes) : decodeLine (kwRxp ++ spacedBytes p) = .ok (.dispatch p) := by
  have hconnect : kwRxp ≠ kwConnect := by decide
  have hdeliver : kwRxp ≠ kwDeliver := by decide
  simp [decodeLine, lineWords_spacedBytes isWord_kwRxp, hconnect, hdeliver, bytesOperand_map_hexByte]

/-- An operation without operands is itself, and only when it stands alone. -/
theorem noOperands_eq_ok {i j : Instr} {args : List (List Char)} :
    noOperands i args = .ok j ↔ args = [] ∧ i = j := by
  unfold noOperands; split <;> simp_all

theorem bytesOperand_eq_ok {f : Bytes → Instr} {args : List (List Char)} {j : Instr} :
    bytesOperand f args = .ok j ↔ ∃ bs, parseBytes args = some bs ∧ f bs = j := by
  unfold bytesOperand; split <;> simp_all

/-- A line is an operation of a CMD row (R83, R85). -/
theorem decodeLine_format {text : List Char} {i : Instr} (h : decodeLine text = .ok i) : i.format = .cmd := by
  unfold decodeLine at h
  split at h
  · cases h
  · split_ifs at h
    · split at h
      · split at h <;> cases h
        rfl
      · cases h
    · obtain ⟨_, _, rfl⟩ := bytesOperand_eq_ok.mp h; rfl
    · obtain ⟨_, _, rfl⟩ := bytesOperand_eq_ok.mp h; rfl
    all_goals
      obtain ⟨_, rfl⟩ := noOperands_eq_ok.mp h
      rfl

/-! ## Outbound frames (R76 to R78) -/

/-- A frame image begins with the marker, the length byte and the content (R70). -/
theorem frameImage_eq_append (content : Bytes) :
    ∃ rest, frameImage content = 0xFE :: lenByte (content.length + 4) :: (content ++ rest) :=
  ⟨_, by simp only [frameImage, lenByte, List.append_assoc, List.cons_append, List.nil_append]; rfl⟩

theorem decodeOutbound_ident (a : Addr) :
    decodeOutbound (frameImage (zeros 11 ++ reversedAddr a)) = .ok (.ident a) := by
  obtain ⟨rest, h⟩ := frameImage_eq_append (zeros 11 ++ reversedAddr a)
  rw [h]
  rfl

theorem decodeOutbound_ack (h : FiveBytes) : decodeOutbound (frameImage (fiveBytes h)) = .ok (.ack h) := by
  obtain ⟨rest, hrest⟩ := frameImage_eq_append (fiveBytes h)
  rw [hrest]
  rfl

theorem decodeOutbound_syncReq :
    decodeOutbound (frameImage ([0x04, 0x00, 0x00, 0x00, 0x00] ++ packedSolvedImage)) = .ok .syncReq := by
  obtain ⟨rest, h⟩ := frameImage_eq_append ([0x04, 0x00, 0x00, 0x00, 0x00] ++ packedSolvedImage)
  rw [h]
  rfl

/-- An outbound frame is an operation of a TXFRAME row (R83). -/
theorem decodeOutbound_format {p : Bytes} {i : Instr} (h : decodeOutbound p = .ok i) : i.format = .txFrame := by
  unfold decodeOutbound at h
  split_ifs at h
  · split at h <;> cases h
    rfl
  · split at h <;> cases h
    rfl
  · cases h
    rfl

/-! ## Inbound frames (R80) -/

/-- The message of a kind, as the operation it is. -/
def messageInstr (k : MsgKind) (p : Bytes) : Instr :=
  match k with
  | .hello => .hello p
  | .move => .move p
  | .syncEcho => .syncEcho p

theorem matchesRow_iff {op : Byte} {n : Nat} {p : Bytes} :
    matchesRow op n p = true ↔ p[0]? = some marker ∧ p[2]? = some op ∧ n ≤ p.length := by
  simp [matchesRow, and_assoc]

/-- A message is well-formed when it matches the row of its kind. -/
theorem messageInstr_wf (k : MsgKind) (p : Bytes) :
    (messageInstr k p).wf = matchesRow (opcodeOf k) (minLen k) p := by
  cases k <;> rfl

/-- A plaintext that decodes begins with the marker and has an opcode byte. -/
theorem decodeInbound_head {p : Bytes} {i : Instr} (h : decodeInbound p = .ok i) :
    p[0]? = some marker ∧ ∃ op, p[2]? = some op := by
  unfold decodeInbound at h
  split at h
  · cases h
  · next m op? h0 =>
    split at h
    · cases h
    · next hm =>
      split at h
      · cases h
      · next op h2 => exact ⟨h0.trans (congrArg some (not_not.mp hm)), op, h2⟩

/-- Behind the marker the decoder follows the dispatcher's opcode map and least lengths (R80, R83). -/
theorem decodeInbound_of_marker {p : Bytes} {op : Byte} (h0 : p[0]? = some marker) (h2 : p[2]? = some op) :
    decodeInbound p = (kindOf op).elim (.error (.dropped (.protocolError .unknownOpcode))) fun k =>
      if minLen k ≤ p.length then .ok (messageInstr k p) else .error (.dropped (.formatError .tooShort)) := by
  rw [decodeInbound, h0, h2]
  by_cases hhello : op = opHello
  · subst hhello; rfl
  by_cases hmove : op = opMove
  · subst hmove; rfl
  by_cases hsync : op = opSync
  · subst hsync; rfl
  · simp [kindOf, hhello, hmove, hsync]

/-- The decoder reads a message exactly from the plaintexts that match its row (R80, R83). -/
theorem decodeInbound_eq_ok {p : Bytes} {i : Instr} :
    decodeInbound p = .ok i ↔ ∃ k, i = messageInstr k p ∧ matchesRow (opcodeOf k) (minLen k) p = true := by
  constructor
  · intro h
    obtain ⟨h0, op, h2⟩ := decodeInbound_head h
    rw [decodeInbound_of_marker h0 h2] at h
    cases hk : kindOf op with
    | none => simp [hk] at h
    | some k =>
      rw [hk, Option.elim_some] at h
      split at h
      · next hlen =>
        cases h
        exact ⟨k, rfl, matchesRow_iff.mpr ⟨h0, kindOf_eq_some.mp hk ▸ h2, hlen⟩⟩
      · cases h
  · rintro ⟨k, rfl, h⟩
    obtain ⟨h0, h2, hlen⟩ := matchesRow_iff.mp h
    rw [decodeInbound_of_marker h0 h2, kindOf_eq_some.mpr rfl, Option.elim_some, if_pos hlen]

/-! ## Decoding and encoding -/

theorem decodeInbound_of_wf {k : MsgKind} {p : Bytes} (h : (messageInstr k p).wf = true) :
    decodeInbound p = .ok (messageInstr k p) :=
  decodeInbound_eq_ok.mpr ⟨k, rfl, messageInstr_wf k p ▸ h⟩

/-- Settles O53, by the form in which each operation is written. -/
theorem decodeInvertsEncode : Obligations.DecodeInvertsEncode := by
  intro i hwf
  cases i with
  | crc16 | crcStep | encrypt | decrypt | buildFrame | parseFrame | buildAck | unpack | pack | isSolved
  | toNotation | moveLabel => rfl
  | hello p => exact decodeInbound_of_wf (k := .hello) hwf
  | move p => exact decodeInbound_of_wf (k := .move) hwf
  | syncEcho p => exact decodeInbound_of_wf (k := .syncEcho) hwf
  | ident a => exact decodeOutbound_ident a
  | ack h => exact decodeOutbound_ack h
  | syncReq => exact decodeOutbound_syncReq
  | connect a => exact decodeLine_connect a
  | dispatch p => exact decodeLine_dispatch p
  | deliver c => exact decodeLine_deliver c
  | rx | txDone | requestSync | teardown | transportError => rfl

/-- Only an inbound message can be ill-formed. -/
theorem Instr.wf_of_format {i : Instr} (h : i.format ≠ .rxFrame) : i.wf = true := by
  cases i with
  | hello | move | syncEcho => exact absurd rfl h
  | _ => rfl

/-- Settles O54: an inbound message matches its row, and what the other forms yield is of another row. -/
theorem decodedOperationsAreWellFormed : Obligations.DecodedOperationsAreWellFormed := by
  intro it i h
  match it with
  | .line text => exact Instr.wf_of_format (by simp [decodeLine_format h])
  | .frame .outbound p => exact Instr.wf_of_format (by simp [decodeOutbound_format h])
  | .frame .inbound p =>
    obtain ⟨k, rfl, hrow⟩ := decodeInbound_eq_ok.mp h
    rw [messageInstr_wf, hrow]
  | .call f =>
    rw [decode] at h
    split_ifs at h with hf
    cases h
    exact Instr.wf_of_format (by simp [hf])

/-! ## The words of the opcode table (R83) -/

/-- A word with the marker and the opcode of a message, read as an inbound frame, is that message. -/
theorem decodeTableWord_of_message {k : MsgKind} {w : Nat} {p : Bytes} (hitem : tableItem 24 w = .frame .inbound p)
    (hrow : matchesRow (opcodeOf k) (minLen k) p = true) : decodeTableWord 24 w = some (messageInstr k p) := by
  rw [decodeTableWord, hitem, decode, decodeInbound_eq_ok.mpr ⟨k, rfl, hrow⟩]

/-- Settles O56: the frame of each word, then its row. -/
theorem sampleWordsDecode : Obligations.SampleWordsDecode :=
  ⟨decodeTableWord_of_message (k := .hello) rfl (by decide), decodeTableWord_of_message (k := .move) rfl (by decide),
    decodeTableWord_of_message (k := .syncEcho) rfl (by decide), rfl, rfl, rfl, rfl, decodeLine_deliver [0xFE, 0x09]⟩

end Sys2Proof

namespace Sys2Proof.Machine

/-! ## The dispatcher and the decoder (R80, R176) -/

/-- A message given as the operation it is runs under the dispatcher's guards (log 13). -/
theorem exec_messageInstr (k : MsgKind) (p : Bytes) (s : State) :
    exec (messageInstr k p) s = recover s (message k p s (handle Config.cipher k p s)) := by
  cases k <;> rfl

theorem message_off {k : MsgKind} {p : Bytes} {s : State} (off : s.fsm = .disconnected) (handler : Res State) :
    message k p s handler = .ok s := by
  rw [message, if_pos off]

theorem message_live {k : MsgKind} {p : Bytes} {s : State} (live : s.fsm ≠ .disconnected) (handler : Res State) :
    message k p s handler =
      (classify s.cfg p).bind fun k' => if k' = k then handler else .refused .notThisMessage := by
  rw [message, if_neg live]

/-- A frame the dispatcher's checks accept matches the row of its kind. -/
theorem matchesRow_of_classify {cfg : Config} {p : Bytes} {k : MsgKind} (h : classify cfg p = .ok k) :
    matchesRow (opcodeOf k) (minLen k) p = true := by
  rcases classify_ok_or_raised cfg p with ⟨k', op, h0, h2, hk, hlen, _, hc⟩ | ⟨e, hc⟩ <;> cases hc.symm.trans h
  exact matchesRow_iff.mpr ⟨h0, kindOf_eq_some.mp hk ▸ h2, hlen⟩

/-- A plaintext matches the row of one kind at most: the opcodes differ. -/
theorem kind_eq_of_matchesRow {p : Bytes} {k k' : MsgKind} (h : matchesRow (opcodeOf k) (minLen k) p = true)
    (h' : matchesRow (opcodeOf k') (minLen k') p = true) : k = k' := by
  obtain ⟨_, h2, _⟩ := matchesRow_iff.mp h
  obtain ⟨_, h2', _⟩ := matchesRow_iff.mp h'
  have hop : opcodeOf k = opcodeOf k' := Option.some_inj.mp (h2.symm.trans h2')
  have hkind : some k = some k' := (kindOf_eq_some.mpr rfl).symm.trans (kindOf_eq_some.mpr hop)
  exact Option.some_inj.mp hkind

/-- On a plaintext of its row a message does what `DISPATCH` does, whether the trailer is accepted or not: both
run the same checks. -/
theorem dispatch_eq_message (cph : Cipher) {k : MsgKind} {p : Bytes}
    (hrow : matchesRow (opcodeOf k) (minLen k) p = true) (s : State) :
    dispatch cph p s = message k p s (handle cph k p s) := by
  rcases dispatch_cases cph p s with ⟨off, hd⟩ | ⟨live, k', hc, _, hd⟩ | ⟨live, e, hc, hd⟩
  · rw [hd, message_off off]
  · obtain rfl : k' = k := kind_eq_of_matchesRow (matchesRow_of_classify hc) hrow
    rw [hd, message_live live, hc, Res.bind_ok, if_pos rfl]
  · rw [hd, message_live live, hc, Res.bind_raised]

/-- `DISPATCH` of a plaintext that matches no row changes nothing. -/
theorem exec_dispatch_of_no_row {p : Bytes} (h : ∀ k, matchesRow (opcodeOf k) (minLen k) p ≠ true) (s : State) :
    exec (.dispatch p) s = .next s := by
  rw [exec, execDispatch]
  rcases dispatch_cases Config.cipher p s with ⟨_, hd⟩ | ⟨_, k, hc, _, _⟩ | ⟨_, e, _, hd⟩
  · rw [hd, recover_ok]
  · exact absurd (matchesRow_of_classify hc) (h k)
  · rw [hd, recover_raised]

/-- Settles O55: what decodes is the message of its row, and what does not matches no row. -/
theorem dispatcherFollowsTheOpcodeMap : Obligations.DispatcherFollowsTheOpcodeMap := by
  refine fun s p => ⟨fun i hi _ => ?_, fun e he => exec_dispatch_of_no_row (fun k hrow => ?_) s⟩
  · obtain ⟨k, rfl, hrow⟩ := decodeInbound_eq_ok.mp hi
    rw [exec_messageInstr, ← dispatch_eq_message Config.cipher hrow, exec, execDispatch]
  · cases he.symm.trans (decodeInbound_eq_ok.mpr ⟨k, rfl, hrow⟩)

/-! ## The next operation (R85, R170) -/

/-- A script entry that decodes is run, the script moved past it. -/
theorem step_of_decoded {s : State} {it : Item} {rest : List Item} {i : Instr} (hscript : s.script = it :: rest)
    (hdecode : decode it = .ok i) : step s = exec i (s.setScript rest) := by
  simp only [step, fetch, hscript, hdecode]

/-- A script entry that does not decode is passed over or refused, by the reason. -/
theorem fetch_of_rejected {s : State} {it : Item} {rest : List Item} {e : DecodeError} (hscript : s.script = it :: rest)
    (hdecode : decode it = .error e) : fetch s = rejected e (s.setScript rest) := by
  simp only [fetch, hscript, hdecode]

theorem step_of_passed {s : State} {it : Item} {rest : List Item} {e : DecodeError} (hscript : s.script = it :: rest)
    (hdecode : decode it = .error e) (he : e = .blankLine ∨ ∃ b, e = .dropped b) :
    step s = .next (s.setScript rest) := by
  rw [step, fetch_of_rejected hscript hdecode]
  obtain rfl | ⟨b, rfl⟩ := he <;> rfl

theorem step_of_refused {s : State} {it : Item} {rest : List Item} {e : DecodeError} (hscript : s.script = it :: rest)
    (hdecode : decode it = .error e) (hblank : e ≠ .blankLine) (hdropped : ∀ b, e ≠ .dropped b) :
    step s = .refused (.undecodable e) := by
  rw [step, fetch_of_rejected hscript hdecode]
  rcases rejected_cases e (s.setScript rest) with ⟨⟨b, hb⟩ | hb, _⟩ | ⟨_, _, hr⟩
  · exact absurd hb (hdropped b)
  · exact absurd hb hblank
  · rw [hr]

/-- With the script over and something queued the block takes `RX`. -/
theorem step_rx {s : State} {c : Bytes} {q : List Bytes} (hscript : s.script = []) (hrxq : s.rxq = c :: q) :
    step s = exec .rx s := by
  simp only [step, fetch, hscript, hrxq]

/-- Settles O52, by what `fetch` finds. -/
theorem stepRunsTheDecodedOperation : Obligations.StepRunsTheDecodedOperation := fun _ =>
  ⟨fun _ _ _ => step_of_decoded, fun _ _ _ => step_of_passed, fun _ _ _ => step_of_refused, fun _ _ => step_rx,
    step_idle⟩

/-! ## The outbound frames (R76 to R78) -/

/-- The buffer the builder leaves is the frame image of R70, whatever the two placeholder bytes hold (R123). -/
theorem builtBuffer_eq_frameImage (content : Bytes) (x y : Byte) :
    builtBuffer (content ++ [x, y]) = frameImage content := by
  have hlen : (content ++ [x, y]).length = content.length + 2 := by simp
  simp only [builtBuffer, hlen, Nat.add_sub_cancel, List.take_left', Nat.add_assoc, Nat.reduceAdd]
  rfl

/-- The frame image by the length of the content, what stands before the CRC, and the number of padding bytes (R70). -/
theorem frameImage_of_head {content head : Bytes} {m n : Nat} (hlen : content.length = m)
    (hhead : [0xFE, lenByte (m + 4)] ++ content = head) (hpad : ceil16 (m + 4) - (m + 4) = n) :
    frameImage content = head ++ [lo8 (crc16 head), hi8 (crc16 head)] ++ zeros n := by
  subst hlen hhead hpad; rfl

theorem frameImage_ident (a : Addr) : frameImage (zeros 11 ++ reversedAddr a) = identImage a :=
  frameImage_of_head (m := 17) (n := 11) rfl rfl (by decide)

theorem frameImage_ack (h : FiveBytes) : frameImage (fiveBytes h) = ackImage (fiveBytes h) :=
  frameImage_of_head (m := 5) (n := 7) rfl rfl (by decide)

theorem frameImage_sync (h : FiveBytes) : frameImage (fiveBytes h ++ packedSolvedImage) = syncImage h :=
  frameImage_of_head (m := 32) (n := 12) rfl rfl (by decide)

/-- The solved cube packs to the bytes R78 prints. -/
theorem packPairs_solved : packPairs solved = packedSolvedImage := by decide

/-- The identification frame is the ciphertext of R76's layout. -/
theorem identFrame_image (cph : Cipher) (cfg : Config) (a : Addr) :
    identFrame cph cfg a = .ok (encrypt cph cfg.key (identImage a)) := by
  rw [identFrame_eq, show zeros 2 = [0, 0] from rfl, builtBuffer_eq_frameImage, frameImage_ident]

/-- The frame of an acknowledgment body is the ciphertext of R77's layout: the outer CRC lands on the inner one
(R142). -/
theorem buildFrame_ackBody (cph : Cipher) (cfg : Config) (h : FiveBytes) :
    buildFrame cph cfg (ackBody (fiveBytes h)) = .ok (encrypt cph cfg.key (ackImage (fiveBytes h))) := by
  rw [ackBody_of_five rfl, buildFrame_inside cph cfg (by simp) (by simp), crcBytes, builtBuffer_eq_frameImage,
    frameImage_ack]

/-- The sync request frame is the ciphertext of R78's layout. -/
theorem syncFrame_image (cph : Cipher) {cfg : Config} (h : cfg.hasSync = true) :
    syncFrame cph cfg = .ok (encrypt cph cfg.key (syncImage cfg.syncHdr)) := by
  rw [syncFrame_eq cph h, builtBuffer_eq_frameImage, packPairs_solved, frameImage_sync]

theorem syncFrame_refused (cph : Cipher) {cfg : Config} (h : cfg.hasSync = false) :
    syncFrame cph cfg = .refused .noSync := by
  simp [syncFrame, h]

/-- Settles O15, by the image of each frame. -/
theorem outboundFramesHaveTheirLayouts : Obligations.OutboundFramesHaveTheirLayouts := by
  intro s a h
  refine ⟨?_, ?_, fun hsync => ?_, fun hsync => ?_⟩
  · rw [exec, execIdent, identFrame_image]; rfl
  · rw [exec, execAck, buildFrame_ackBody]; rfl
  · rw [exec, execSyncReq, syncFrame_image _ hsync]; rfl
  · rw [exec, execSyncReq, syncFrame_refused _ hsync]; rfl

end Sys2Proof.Machine

/-! The Checksum Engine (spec/40_crc.md), and what the units write (R100). -/

namespace Sys2Proof.Machine

/-! ## The result port (log 2) -/

@[simp] theorem State.accept_out (s : State) (a : Acceptance) : (s.accept a).out = s.out := rfl

/-- Processing a plaintext leaves the result port. -/
theorem Processed.out {s t : State} (h : Processed s t) : t.out = s.out := by
  cases h with
  | dropped => rfl
  | accepted live a => exact s.accept_out a

/-- Settles O43: of the effects of an operation, a unit's answer alone writes the result port, and writes nothing else. -/
theorem unitsWriteNothingButTheirAnswer : Obligations.UnitsWriteNothingButTheirAnswer := by
  intro i s t h
  cases exec_effect h with
  | answered unit v => exact ⟨fun _ => rfl, fun other => absurd unit other⟩
  | processed block hp => exact ⟨fun unit => absurd (block.symm.trans unit) nofun, fun _ => hp.out⟩
  | received queue hp => exact ⟨nofun, fun _ => hp.out⟩
  | connected | requested | transmitted | delivered | tornDown | failed => exact ⟨nofun, fun _ => rfl⟩
  | ignored => exact ⟨fun _ => rfl, fun _ => rfl⟩

/-! ## The byte step (R101) -/

/-- The rounds as the iterate of one shift, the polynomial written out. -/
theorem crcRounds_eq_iterate (n : Nat) (r : Word16) :
    crcRounds n r = (fun x : Word16 => if x.getLsbD 0 then (x >>> 1) ^^^ 0xA001 else x >>> 1)^[n] r := by
  induction n generalizing r with
  | zero => rfl
  | succ n ih => exact ih (crcShift r)

/-- Rounds that meet no set bit only shift: the polynomial is never XORed in. -/
theorem crcRounds_of_low_bits_clear {n : Nat} {r : Word16} (h : ∀ i < n, r.getLsbD i = false) :
    crcRounds n r = r >>> n := by
  induction n generalizing r with
  | zero => simp [crcRounds]
  | succ n ih =>
    have hshift : crcShift r = r >>> 1 := if_neg (by rw [h 0 n.succ_pos]; decide)
    have hclear : ∀ i < n, (r >>> 1).getLsbD i = false := fun i hi => by
      rw [BitVec.getLsbD_ushiftRight]; exact h (1 + i) (by omega)
    rw [crcRounds, hshift, ih hclear, ← BitVec.shiftRight_add, Nat.add_comm]

/-- The step on the register's own low byte: that byte cancels, and the high byte moves down. -/
theorem crcStep_lo8 (r : Word16) : crcStep r (lo8 r) = r >>> 8 := by
  have hclear : ∀ i < 8, (r ^^^ (lo8 r).setWidth 16).getLsbD i = false := fun i hi => by
    simp [lo8, hi, show i < 16 by omega]
  rw [crcStep, crcRounds_of_low_bits_clear hclear]
  ext i hi
  simp [lo8]

/-- The step on a register that holds just the byte: the two cancel. -/
theorem crcStep_hi8 (r : Word16) : crcStep (r >>> 8) (hi8 r) = 0 := by
  have hbyte : (hi8 r).setWidth 16 = r >>> 8 := by
    ext i hi
    have hinside : r.getLsbD (8 + i) = true → i < 8 := fun hbit => by
      have := BitVec.lt_of_getLsbD hbit
      omega
    simpa [hi8] using hinside
  rw [crcStep, hbyte, BitVec.xor_self, crcRounds_of_low_bits_clear (by simp), BitVec.zero_ushiftRight]
  rfl

/-! ## The checksum (R102, R105, R106) -/

/-- The checksum goes on from its register (R105). -/
theorem crc16_append (s t : Bytes) : crc16 (s ++ t) = t.foldl crcStep (crc16 s) :=
  List.foldl_append

/-- Settles O3: the low byte leaves the register's high byte, which the high byte cancels. -/
theorem crcResidueIsZero : Obligations.CrcResidueIsZero := by
  intro s
  rw [crc16_append, List.foldl_cons, crcStep_lo8, List.foldl_cons, crcStep_hi8, List.foldl_nil]

/-- Settles O1: the step is its eight rounds, and a string with one byte more is one step more. -/
theorem crcUnitsComputeTheirAlgorithm : Obligations.CrcUnitsComputeTheirAlgorithm := by
  intro s bytes r b
  refine ⟨?_, rfl, crc16 bytes, rfl, ?_⟩
  · rw [← crcRounds_eq_iterate]; rfl
  · rw [exec, execCrc16, crc16_append]; rfl

/-- Settles O2. -/
theorem crcContinuesFromItsRegister : Obligations.CrcContinuesFromItsRegister := crc16_append

end Sys2Proof.Machine

/-! The Block Cipher Codec (spec/41_cipher.md): padding, the units block by block, and the round trip. -/

namespace Sys2Proof.Machine

/-! ## Whole blocks and padding (R112) -/

theorem flatMap_blockBytes_length (bs : List Block) : (bs.flatMap blockBytes).length = 16 * bs.length := by
  induction bs with
  | nil => rfl
  | cons b bs ih => simp [ih]; omega

/-- Padding adds nothing to whole blocks. -/
theorem padTo16_of_mul {s : Bytes} (h : s.length % 16 = 0) : padTo16 s = s := by
  rw [padTo16, ceil16_of_mul h, Nat.sub_self, zeros_zero, List.append_nil]

theorem padTo16_length_mod (s : Bytes) : (padTo16 s).length % 16 = 0 := by
  rw [padTo16_length]; exact (ceil16_spec s.length).2.2

/-- Zeros that leave the padded length as it is are taken from the padding. -/
theorem padTo16_append_zeros {d : Bytes} {j : Nat} (h : ceil16 (d.length + j) = ceil16 d.length) :
    padTo16 (d ++ zeros j) = padTo16 d := by
  have hfits := (ceil16_spec (d.length + j)).1
  rw [padTo16, padTo16, List.length_append, zeros_length, List.append_assoc, zeros_append, h]
  congr 2
  omega

/-- `ENCRYPT` answers by the padded input alone. -/
theorem encrypt_eq_of_padTo16_eq (cph : Cipher) (key : Block) {d e : Bytes} (h : padTo16 d = padTo16 e) :
    encrypt cph key d = encrypt cph key e := by
  have hlen : ceil16 d.length = ceil16 e.length := by rw [← padTo16_length, h, padTo16_length]
  rw [encrypt, encrypt, h, hlen]

/-- `ENCRYPT` of the padded input: padding again changes nothing. -/
theorem encrypt_padTo16 (cph : Cipher) (key : Block) (d : Bytes) :
    encrypt cph key (padTo16 d) = encrypt cph key d :=
  encrypt_eq_of_padTo16_eq cph key (padTo16_of_mul (padTo16_length_mod d))

/-! ## The units block by block (R112, R113) -/

/-- `ENCRYPT` of whole blocks is the cipher on each. -/
theorem encrypt_flatMap (cph : Cipher) (key : Block) (bs : List Block) :
    encrypt cph key (bs.flatMap blockBytes) = bs.flatMap fun b => blockBytes (cph key b) := by
  have hlen := flatMap_blockBytes_length bs
  have hwhole : (bs.flatMap blockBytes).length % 16 = 0 := by omega
  have hcount : ceil16 (bs.flatMap blockBytes).length / blockSize = bs.length := by
    rw [ceil16_of_mul hwhole, hlen]; exact Nat.mul_div_cancel_left _ (by decide)
  rw [encrypt, hcount, padTo16_of_mul hwhole, mapBlocks_flatMap]

/-- `DECRYPT` of whole blocks is the inverse cipher on each. -/
theorem decrypt_flatMap (cph : Cipher) (key : Block) (bs : List Block) :
    decrypt cph key (bs.flatMap blockBytes) = .ok (bs.flatMap fun b => blockBytes ((cph key).symm b)) := by
  have hlen := flatMap_blockBytes_length bs
  have hcount : (bs.flatMap blockBytes).length / 16 = bs.length := by omega
  rw [decrypt_whole (by omega), hcount, mapBlocks_flatMap]

theorem exec_encrypt (d : Bytes) (s : State) :
    exec (.encrypt d) s = .next (s.setOut (.bytes (encrypt Config.cipher s.cfg.key d))) := rfl

theorem exec_decrypt (c : Bytes) (s : State) :
    exec (.decrypt c) s = answer s ((decrypt Config.cipher s.cfg.key c).map .bytes) := rfl

/-! ## The statements -/

/-- Settles O4: the padded input is made of whole blocks, and `ENCRYPT` of it is `ENCRYPT` of the input. -/
theorem encryptPadsThenEnciphersEachBlock : Obligations.EncryptPadsThenEnciphersEachBlock := by
  refine ⟨encrypt_flatMap, fun cph key d => ?_, fun s d => exec_encrypt d s⟩
  obtain ⟨bs, -, hbs⟩ := exists_blocks (Nat.mul_div_cancel' (Nat.dvd_of_mod_eq_zero (padTo16_length_mod d))).symm
  exact ⟨bs, hbs, by rw [← encrypt_padTo16, ← hbs, encrypt_flatMap]⟩

/-- Settles O5: the length test decides between the deciphered string and the error. -/
theorem decryptDeciphersBlocksOrRaises : Obligations.DecryptDeciphersBlocksOrRaises := by
  refine ⟨decrypt_flatMap, fun s c hwhole => ?_, fun s c hragged => ?_⟩
  · have hlen : 16 * (c.length / 16) = c.length := by omega
    have hplain := decrypt_whole (cph := Config.cipher) (key := s.cfg.key) hwhole
    exact ⟨_, (mapBlocks_length _ _ c).trans hlen, hplain, by rw [exec_decrypt, hplain]; rfl⟩
  · rw [exec_decrypt, decrypt_ragged hragged]; rfl

/-- Settles O6: the round trip on the padded input, which needs no padding, gives it back. -/
theorem decryptUndoesEncryptUpToPadding : Obligations.DecryptUndoesEncryptUpToPadding := by
  intro cph key d
  rw [← encrypt_padTo16, decrypt_encrypt_whole (padTo16_length_mod d)]
  rfl

/-- Settles O7: both strings have one padded input. -/
theorem paddingCannotBeToldFromData : Obligations.PaddingCannotBeToldFromData :=
  fun cph key _ _ h => encrypt_eq_of_padTo16_eq cph key (padTo16_append_zeros h)

end Sys2Proof.Machine

/-! The Frame Codec (spec/42_frame.md): the buffer the builder enciphers, the parser's checks as conditions on the
plaintext, and the parser on the builder's frames. -/

namespace Sys2Proof.Machine

/-! ## The built buffer (R122, R124) -/

/-- What the CRC of a frame covers: marker, length byte, and the body without its two placeholders (R122). -/
def builtHead (body : Bytes) : Bytes := [marker, lenByte (body.length + 2)] ++ body.take (body.length - 2)

theorem builtBuffer_eq (body : Bytes) :
    builtBuffer body = builtHead body ++ crcBytes (crc16 (builtHead body)) ++
      zeros (ceil16 (body.length + 2) - (body.length + 2)) := rfl

theorem builtHead_length {body : Bytes} (h : 2 ≤ body.length) : (builtHead body).length = body.length := by
  simp [builtHead]; omega

theorem builtBuffer_length_mod {body : Bytes} (h : 2 ≤ body.length) : (builtBuffer body).length % 16 = 0 := by
  rw [builtBuffer_length h]; exact (ceil16_spec _).2.2

theorem builtBuffer_take_head {body : Bytes} (h : 2 ≤ body.length) :
    (builtBuffer body).take body.length = builtHead body := by
  rw [builtBuffer_eq, List.append_assoc, List.take_left' (builtHead_length h)]

theorem builtBuffer_take_logical {body : Bytes} (h : 2 ≤ body.length) :
    (builtBuffer body).take (body.length + 2) = builtHead body ++ crcBytes (crc16 (builtHead body)) := by
  rw [builtBuffer_eq, List.take_left' (by simp [builtHead_length h])]

theorem builtBuffer_marker (body : Bytes) : (builtBuffer body)[0]? = some marker := rfl

theorem builtBuffer_lenByte (body : Bytes) : (builtBuffer body)[1]? = some (lenByte (body.length + 2)) := rfl

/-- From the CRC on, the built buffer is the CRC and the padding. -/
theorem builtBuffer_getElem?_tail {body : Bytes} (h : 2 ≤ body.length) (j : Nat) :
    (builtBuffer body)[body.length + j]? =
      (crcBytes (crc16 (builtHead body)) ++ zeros (ceil16 (body.length + 2) - (body.length + 2)))[j]? := by
  have hlen := builtHead_length h
  rw [builtBuffer_eq, List.append_assoc, List.getElem?_append_right (by omega), hlen, Nat.add_sub_cancel_left]

theorem builtBuffer_crcLow {body : Bytes} (h : 2 ≤ body.length) :
    (builtBuffer body)[body.length]? = some (lo8 (crc16 (builtHead body))) := builtBuffer_getElem?_tail h 0

theorem builtBuffer_crcHigh {body : Bytes} (h : 2 ≤ body.length) :
    (builtBuffer body)[body.length + 1]? = some (hi8 (crc16 (builtHead body))) := builtBuffer_getElem?_tail h 1

theorem builtBuffer_padding {body : Bytes} (h : 2 ≤ body.length) {j : Nat} (hj : body.length + 2 ≤ j)
    (hlt : j < (builtBuffer body).length) : (builtBuffer body)[j]? = some 0 := by
  obtain ⟨i, rfl⟩ := Nat.exists_eq_add_of_le hj
  rw [builtBuffer_length h] at hlt
  rw [Nat.add_assoc, builtBuffer_getElem?_tail h, List.getElem?_append_right (by simp), crcBytes_length,
    Nat.add_sub_cancel_left, zeros, List.getElem?_replicate_of_lt (by omega)]

/-- Byte 2 of a frame is its body's first byte, unless the CRC has replaced it (R131). -/
theorem builtBuffer_opcode {body : Bytes} (h : 3 ≤ body.length) : (builtBuffer body)[2]? = body[0]? := by
  have hhead : 2 < (builtHead body).length := by rw [builtHead_length (by omega)]; omega
  rw [builtBuffer_eq, List.append_assoc, List.getElem?_append_left hhead]
  exact List.getElem?_take_of_lt (i := 0) (by omega)

/-- A body of placeholders alone leaves `FE 04` before the CRC (R122). -/
theorem builtHead_of_length_two {body : Bytes} (h : body.length = 2) : builtHead body = [0xFE, 0x04] := by
  rw [builtHead, h]; rfl

theorem lenByte_toNat {n : Nat} (h : n ≤ 255) : (lenByte n).toNat = n :=
  Nat.mod_eq_of_lt (show n < 2 ^ 8 by omega)

/-- A CRC value from its two bytes in a frame (R104). -/
theorem lo8_hi8_toNat (c : Word16) : (lo8 c).toNat + 256 * (hi8 c).toNat = c.toNat := by
  have := c.isLt
  simp only [lo8, hi8, BitVec.extractLsb'_toNat, Nat.shiftRight_eq_div_pow]
  omega

/-- The ciphertext of a built buffer deciphers to that buffer: it needs no padding (R115). -/
theorem decrypt_built (cph : Cipher) (key : Block) {body : Bytes} (h : 2 ≤ body.length) :
    decrypt cph key (encrypt cph key (builtBuffer body)) = .ok (builtBuffer body) :=
  decrypt_encrypt_whole (builtBuffer_length_mod h)

/-! ## The parser's checks (R126, R129, R130) -/

theorem lengthByteGood_eq {p : Bytes} {b : Byte} (h : p[1]? = some b) :
    lengthByteGood p = decide (4 ≤ b.toNat ∧ b.toNat ≤ p.length) := by
  simp only [lengthByteGood, h]

theorem trailerGood_iff {p : Bytes} {b : Byte} (h : p[1]? = some b) :
    trailerGood p = true ↔ lengthByteGood p = true ∧
      p[b.toNat - 2]? = some (lo8 (crc16 (p.take (b.toNat - 2)))) ∧
      p[b.toNat - 1]? = some (hi8 (crc16 (p.take (b.toNat - 2)))) := by
  simp only [trailerGood, h, Bool.and_eq_true, beq_iff_eq, and_assoc]

/-- `CHECK_CRC` by the two conditions on the trailer (R129). -/
theorem checkCrc_eq {p : Bytes} (h : 3 ≤ p.length) :
    checkCrc p =
      if lengthByteGood p = false then .raised (.formatError .tooShort)
      else if trailerGood p = false then .raised (.protocolError .badCrc)
      else .ok () := by
  have h1 : p[1]? = some p[1] := List.getElem?_eq_getElem (by omega)
  rw [checkCrc_cases h]
  by_cases hlen : lengthByteGood p = true
  · have hfits : 4 ≤ p[1].toNat ∧ p[1].toNat ≤ p.length := by simpa [lengthByteGood_eq h1] using hlen
    rw [if_neg (by omega)]
    by_cases htrailer : trailerGood p = true
    · rw [if_pos ((trailerGood_iff h1).mp htrailer).2]
      simp [hlen, htrailer]
    · rw [if_neg fun hcrc => htrailer ((trailerGood_iff h1).mpr ⟨hlen, hcrc⟩)]
      simp [hlen, htrailer]
  · have hbad : ¬ (4 ≤ p[1].toNat ∧ p[1].toNat ≤ p.length) := by simpa [lengthByteGood_eq h1] using hlen
    rw [if_pos (by omega)]
    simp [hlen]

/-- `PARSE_PLAIN` on a plaintext with bytes 0 and 2: its checks in order, then the opcode byte (R126, R130). -/
theorem parsePlain_eq (cfg : Config) {p : Bytes} {m op : Byte} (h0 : p[0]? = some m) (h2 : p[2]? = some op) :
    parsePlain cfg p =
      if m ≠ marker then .raised (.protocolError .badMarker)
      else if cfg.verifyRxCrc = true ∧ lengthByteGood p = false then .raised (.formatError .tooShort)
      else if cfg.verifyRxCrc = true ∧ trailerGood p = false then .raised (.protocolError .badCrc)
      else .ok (p, op) := by
  obtain ⟨hlen, rfl⟩ := List.getElem?_eq_some_iff.mp h2
  obtain ⟨_, rfl⟩ := List.getElem?_eq_some_iff.mp h0
  rcases parsePlain_cases cfg p with ⟨hshort, _⟩ | ⟨_, hm, h⟩ | ⟨_, _, hshort, _⟩ | ⟨_, hm, h⟩
  · omega
  · rw [h, if_pos hm]
  · omega
  · rw [h, if_neg (not_not_intro hm), checkCrc_eq (by omega)]
    cases cfg.verifyRxCrc with
    | false => rfl
    | true =>
      cases lengthByteGood p with
      | false => rfl
      | true => cases trailerGood p <;> rfl

/-- `PARSE_FRAME` of the ciphertext of whole blocks runs the checks on those blocks (R126). -/
theorem parseFrame_encrypt (cph : Cipher) (cfg : Config) {p : Bytes} (h : p.length % 16 = 0) :
    parseFrame cph cfg (encrypt cph cfg.key p) = parsePlain cfg p := by
  rw [parseFrame, decrypt_encrypt_whole h, Res.bind_ok]

/-- A plaintext of whole blocks is empty or has bytes 0 and 2. -/
theorem eq_nil_or_head_bytes {p : Bytes} (h : p.length % 16 = 0) :
    p = [] ∨ ∃ m op, p[0]? = some m ∧ p[2]? = some op := by
  rcases p with _ | ⟨m, _ | ⟨_, _ | ⟨op, p⟩⟩⟩
  · exact .inl rfl
  · simp at h
  · simp at h
  · exact .inr ⟨m, op, rfl, rfl⟩

/-! ## The parser on the builder's frames (R131) -/

/-- The trailer the builder writes passes the check (R129). -/
theorem trailerGood_builtBuffer {body : Bytes} (h2 : 2 ≤ body.length) (h253 : body.length ≤ 253) :
    trailerGood (builtBuffer body) = true := by
  have hbyte : (lenByte (body.length + 2)).toNat = body.length + 2 := lenByte_toNat (by omega)
  have hfits := (ceil16_spec (body.length + 2)).1
  rw [trailerGood_iff (builtBuffer_lenByte body), lengthByteGood_eq (builtBuffer_lenByte body), hbyte,
    builtBuffer_length h2, Nat.add_sub_cancel, show body.length + 2 - 1 = body.length + 1 from rfl,
    builtBuffer_take_head h2]
  exact ⟨decide_eq_true ⟨by omega, hfits⟩, builtBuffer_crcLow h2, builtBuffer_crcHigh h2⟩

/-- Every check accepts a built buffer, whether trailers are verified or not (R131). -/
theorem parsePlain_builtBuffer (cfg : Config) {body : Bytes} {op : Byte} (h2 : 2 ≤ body.length)
    (h253 : body.length ≤ 253) (hop : (builtBuffer body)[2]? = some op) :
    parsePlain cfg (builtBuffer body) = .ok (builtBuffer body, op) := by
  have htrailer := trailerGood_builtBuffer h2 h253
  have hlength := ((trailerGood_iff (builtBuffer_lenByte body)).mp htrailer).1
  rw [parsePlain_eq cfg (builtBuffer_marker body) hop]
  simp [htrailer, hlength]

/-! ## The statements -/

theorem exec_buildFrame (body : Bytes) (s : State) :
    exec (.buildFrame body) s = answer s ((buildFrame Config.cipher s.cfg body).map .bytes) := rfl

theorem exec_parseFrame (c : Bytes) (s : State) :
    exec (.parseFrame c) s =
      answer s ((parseFrame Config.cipher s.cfg c).map fun r => .parsed r.1 r.2) := rfl

/-- Settles O10, by the two answers of the builder. -/
theorem buildFrameDomain : Obligations.BuildFrameDomain := by
  intro s body
  refine ⟨fun outside => ?_, fun h2 h253 => ⟨_, builtFrame_length Config.cipher s.cfg.key h2, ?_⟩⟩
  · rw [exec_buildFrame, buildFrame, framePlain_outside outside]; rfl
  · rw [exec_buildFrame, buildFrame_inside _ _ h2 h253]; rfl

/-- Settles O8: the buffer after the five steps is the frame image. -/
theorem builderGivesTheFrameImage : Obligations.BuilderGivesTheFrameImage := by
  intro content x y h251
  have hbuild (cph : Cipher) (cfg : Config) :
      buildFrame cph cfg (content ++ [x, y]) = .ok (encrypt cph cfg.key (frameImage content)) := by
    rw [buildFrame_inside cph cfg (by simp) (by simpa using h251), builtBuffer_eq_frameImage]
  exact ⟨hbuild, fun s => by rw [exec_buildFrame, hbuild]; rfl⟩

/-- Settles O9, by the parts of the built buffer; the residue is that of R106. -/
theorem builtFramePlaintextProperties : Obligations.BuiltFramePlaintextProperties := by
  intro cph cfg body h2 h253
  refine ⟨_, builtBuffer body, buildFrame_inside cph cfg h2 h253, rfl, decrypt_built cph cfg.key h2,
    builtBuffer_marker body, ⟨_, builtBuffer_lenByte body, lenByte_toNat (by omega)⟩, ?_,
    ⟨_, _, builtBuffer_crcLow h2, builtBuffer_crcHigh h2, ?_⟩, fun j => builtBuffer_padding h2,
    builtBuffer_length h2, ?_⟩
  · rw [builtBuffer_take_head h2]; rfl
  · rw [builtBuffer_take_head h2, lo8_hi8_toNat]
  · rw [builtBuffer_take_logical h2]; exact crcResidueIsZero _

/-- Settles O11: the built buffer comes back from the cipher and passes every check. -/
theorem parserAcceptsBuiltFrames : Obligations.ParserAcceptsBuiltFrames := by
  intro cph cfg body h2 h253
  have hlen : 2 < (builtBuffer body).length := by
    have := (ceil16_spec (body.length + 2)).1
    rw [builtBuffer_length h2]; omega
  have hop : (builtBuffer body)[2]? = some (builtBuffer body)[2] := List.getElem?_eq_getElem hlen
  refine ⟨_, builtBuffer body, _, buildFrame_inside cph cfg h2 h253, rfl, decrypt_built cph cfg.key h2, ?_, hop,
    fun h3 => ?_, fun htwo => ?_⟩
  · rw [parseFrame_encrypt cph cfg (builtBuffer_length_mod h2), parsePlain_builtBuffer cfg h2 h253 hop]
  · rw [← builtBuffer_opcode h3, hop]
  · have hlow := builtBuffer_crcLow h2
    rw [htwo, hop, builtHead_of_length_two htwo] at hlow
    exact Option.some.inj hlow

/-- Settles O12: the ciphertext's length is tested first, then the checks run on the plaintext in order. -/
theorem parseFrameAnswersInCheckOrder : Obligations.ParseFrameAnswersInCheckOrder := by
  refine ⟨fun s p hwhole => ?_, fun s c hragged => ?_⟩
  · rw [exec_parseFrame, parseFrame_encrypt _ _ hwhole]
    rcases eq_nil_or_head_bytes hwhole with rfl | ⟨m, op, h0, h2⟩
    · rfl
    · rw [parsePlain_eq s.cfg h0 h2]
      simp only [h0, h2]
      change _ = Host.Outcome.next (s.setOut (if m ≠ marker then _ else _))
      split_ifs <;> rfl
  · rw [exec_parseFrame, parseFrame, decrypt_ragged hragged]; rfl

end Sys2Proof.Machine

/-! The Acknowledgment Builder (spec/43_ack.md): the ack head of a buffer, and the two framing stages of R142. -/

namespace Sys2Proof.Machine

/-- A buffer of at least seven bytes is two bytes, an ack head, and the rest (R140). -/
theorem exists_ackHead {p : Bytes} (h : 7 ≤ p.length) :
    ∃ (a b : Byte) (head : FiveBytes) (rest : Bytes), p = [a, b] ++ fiveBytes head ++ rest := by
  match p, h with
  | a :: b :: h0 :: h1 :: h2 :: h3 :: h4 :: rest, _ => exact ⟨a, b, ⟨h0, h1, h2, h3, h4⟩, rest, rfl⟩

/-- `BUILD_ACK` answers the head it finds at offset 2, and the CRC of the inner frame (R141). -/
theorem buildAck_of_head (a b : Byte) (head : FiveBytes) (rest : Bytes) :
    buildAck ([a, b] ++ fiveBytes head ++ rest) =
      .ok (fiveBytes head ++ crcBytes (crc16 ([marker, ackLen] ++ fiveBytes head))) := by
  rw [buildAck_inside (by simp), ← ackBody_of_five (fiveBytes_length head)]; rfl

theorem buildAck_short {p : Bytes} (h : p.length < 7) : buildAck p = .refused .tooShort := by
  rw [buildAck, if_pos h]

theorem exec_buildAck (p : Bytes) (s : State) : exec (.buildAck p) s = answer s ((buildAck p).map .bytes) := rfl

/-- Framing the acknowledgment body once more gives the ciphertext of R77's layout (R142). -/
theorem ackFrame_of_head (cph : Cipher) (cfg : Config) (a b : Byte) (head : FiveBytes) (rest : Bytes) :
    ackFrame cph cfg ([a, b] ++ fiveBytes head ++ rest) =
      .ok (encrypt cph cfg.key (ackImage (fiveBytes head))) := by
  rw [ackFrame, buildAck_of_head, Res.bind_ok, ← ackBody_of_five (fiveBytes_length head), buildFrame_ackBody]

/-- Settles O14: the outer stage writes the CRC the inner one made, over the same seven bytes. -/
theorem ackDoubleFramingYieldsTheAckBuffer : Obligations.AckDoubleFramingYieldsTheAckBuffer := by
  intro cph cfg p h
  obtain ⟨a, b, head, rest, rfl⟩ := exists_ackHead h
  exact ⟨ackFrame_of_head cph cfg a b head rest, rfl⟩

/-- Settles O13, by the two answers of `BUILD_ACK`. -/
theorem buildAckEchoesTheHead : Obligations.BuildAckEchoesTheHead := by
  intro s p
  refine ⟨fun short => ?_, fun h0 h1 h2 h3 h4 e0 e1 e2 e3 e4 => ?_⟩
  · rw [exec_buildAck, buildAck_short short]; rfl
  · have hlen : 7 ≤ p.length := (List.getElem?_eq_some_iff.mp e4).1
    obtain ⟨a, b, head, rest, rfl⟩ := exists_ackHead hlen
    cases e0; cases e1; cases e2; cases e3; cases e4
    rw [exec_buildAck, buildAck_of_head]; rfl

end Sys2Proof.Machine

/-! The Cube State Model (spec/44_cube.md): packing and unpacking, the comparator, the two colour tables, the move labels. -/

namespace Sys2Proof.Machine

/-! ## The two halves of a byte (R150, R152) -/

@[simp] theorem loNibble_byteOfNibbles (lo hi : Nibble) : loNibble (byteOfNibbles lo hi) = lo := by
  revert lo hi; decide

@[simp] theorem hiNibble_byteOfNibbles (lo hi : Nibble) : hiNibble (byteOfNibbles lo hi) = hi := by
  revert lo hi; decide

@[simp] theorem byteOfNibbles_loNibble_hiNibble (b : Byte) : byteOfNibbles (loNibble b) (hiNibble b) = b := by
  revert b; decide

/-! ## `UNPACK` and `PACK`, place by place -/

theorem unpack_getElem?_two_mul (b : Bytes) (k : Nat) : (unpack b)[2 * k]? = b[k]?.map loNibble := by
  induction b generalizing k with
  | nil => rfl
  | cons x b ih =>
    cases k with
    | zero => rfl
    | succ k => exact ih k

theorem unpack_getElem?_two_mul_add_one (b : Bytes) (k : Nat) : (unpack b)[2 * k + 1]? = b[k]?.map hiNibble := by
  induction b generalizing k with
  | nil => rfl
  | cons x b ih =>
    cases k with
    | zero => rfl
    | succ k => exact ih k

theorem packPairs_length : ∀ q : List Nibble, (packPairs q).length = q.length / 2
  | [] => rfl
  | [_] => by simp [packPairs]
  | _ :: _ :: q => by simp only [packPairs, List.length_cons, packPairs_length q]; omega

theorem packPairs_getElem? {q : List Nibble} {k : Nat} {lo hi : Nibble} (hlo : q[2 * k]? = some lo)
    (hhi : q[2 * k + 1]? = some hi) : (packPairs q)[k]? = some (byteOfNibbles lo hi) := by
  induction k generalizing q with
  | zero =>
    match q, hlo, hhi with
    | _ :: _ :: _, rfl, rfl => rfl
  | succ k ih =>
    match q, hlo, hhi with
    | _ :: _ :: q, hlo, hhi => exact ih hlo hhi

theorem pack_of_length {q : List Nibble} (h : q.length = 54) : pack q = .ok (packPairs q) := if_pos h

theorem pack_refused {q : List Nibble} (h : q.length ≠ 54) : pack q = .refused .badLength := if_neg h

/-! ## The round trip (R153) -/

theorem packPairs_unpack (b : Bytes) : packPairs (unpack b) = b := by
  induction b with
  | nil => rfl
  | cons x b ih => rw [unpack, packPairs, byteOfNibbles_loNibble_hiNibble, ih]

/-- A last nibble without a partner would be lost, so the length is even. -/
theorem unpack_packPairs : ∀ {q : List Nibble}, q.length % 2 = 0 → unpack (packPairs q) = q
  | [], _ => rfl
  | lo :: hi :: q, h => by
    have even : q.length % 2 = 0 := (Nat.add_mod_right q.length 2).symm.trans h
    rw [packPairs, unpack, loNibble_byteOfNibbles, hiNibble_byteOfNibbles, unpack_packPairs even]

/-- Settles O18: the round trip holds on every byte string and on every even number of nibbles. -/
theorem packAndUnpackAreInverse : Obligations.PackAndUnpackAreInverse := by
  refine ⟨fun q h => ⟨packPairs q, pack_of_length h, unpack_packPairs (by omega)⟩, fun b h => ?_⟩
  have hlen : (unpack b).length = 54 := by rw [unpack_length, h]
  rw [pack_of_length hlen, packPairs_unpack]

theorem exec_unpack (b : Bytes) (s : State) : exec (.unpack b) s = .next (s.setOut (.nibbles (unpack b))) := rfl

theorem exec_pack (q : List Nibble) (s : State) : exec (.pack q) s = answer s ((pack q).map .bytes) := rfl

/-- Settles O16, by the two nibbles of each byte. -/
theorem unpackEmitsLowNibbleFirst : Obligations.UnpackEmitsLowNibbleFirst := by
  refine fun s b => ⟨unpack b, exec_unpack b s, unpack_length b, fun k x hx => ?_⟩
  rw [unpack_getElem?_two_mul, unpack_getElem?_two_mul_add_one, hx]
  exact ⟨rfl, rfl⟩

/-- Settles O17, by the two answers of `PACK`. -/
theorem packJoinsPairsOrRefuses : Obligations.PackJoinsPairsOrRefuses := by
  refine fun s q => ⟨fun h => ⟨packPairs q, ?_, ?_, fun k lo hi => packPairs_getElem?⟩, fun h => ?_⟩
  · rw [exec_pack, pack_of_length h]; rfl
  · rw [packPairs_length, h]
  · rw [exec_pack, pack_refused h]; rfl

/-! ## The comparator (R154) -/

theorem solved_eq_solvedImage : solved = solvedImage := rfl

theorem isSolved_iff {q : List Nibble} : isSolved q = true ↔ q = solvedImage := by
  rw [← solved_eq_solvedImage]
  constructor
  · intro h
    obtain ⟨hlen, hall⟩ : q.length = nFacelets ∧ ∀ i < nFacelets, q[i]? = solved[i]? := by
      simpa [isSolved] using h
    refine List.ext_getElem? fun i => ?_
    rcases Nat.lt_or_ge i nFacelets with inside | outside
    · exact hall i inside
    · rw [List.getElem?_eq_none (hlen ▸ outside), List.getElem?_eq_none outside]
  · rintro rfl; decide

theorem isSolved_eq_decide (q : List Nibble) : isSolved q = decide (q = solvedImage) :=
  Bool.eq_iff_iff.mpr (isSolved_iff.trans decide_eq_true_iff.symm)

/-- A list with one element replaced by another value is another list. -/
theorem set_ne_of_getElem? {q : List Nibble} {i : Nat} {v w : Nibble} (hw : q[i]? = some w) (hne : v ≠ w) :
    q.set i v ≠ q := by
  intro h
  obtain ⟨hi, -⟩ := List.getElem?_eq_some_iff.mp hw
  have hv : (q.set i v)[i]? = some v := List.getElem?_set_self hi
  rw [h] at hv
  exact hne (Option.some.inj (hv.symm.trans hw))

theorem exec_isSolved (q : List Nibble) (s : State) : exec (.isSolved q) s = .next (s.setOut (.flag (isSolved q))) := rfl

/-- Settles O19: the comparator decides equality with the constant, from which one changed facelet differs. -/
theorem comparatorAcceptsOnlyTheConstant : Obligations.ComparatorAcceptsOnlyTheConstant := by
  refine ⟨fun s q => ?_, fun s i v w hw hne => ?_⟩
  · rw [exec_isSolved, isSolved_eq_decide]; rfl
  · rw [exec_isSolved, isSolved_eq_decide, decide_eq_false (set_ne_of_getElem? hw hne)]; rfl

/-! ## The letters (R157, R158) -/

/-- The letter of a colour by the table; none above 5 (R157). -/
def letterOf (c : Nibble) : Option Char := colorLetters[c.toNat]?

theorem letterOf_eq_none_iff {c : Nibble} : letterOf c = none ↔ 5 < c.toNat := List.getElem?_eq_none_iff

/-- The sequence has letters when its first nibble has one and the rest has. -/
theorem lettersOf_cons (c : Nibble) (q : List Nibble) :
    lettersOf (c :: q) = (letterOf c).bind fun l => (lettersOf q).map (l :: ·) := by
  rw [lettersOf, letterOf]
  cases colorLetters[c.toNat]? <;> cases lettersOf q <;> rfl

/-- The letters stand place by place under their colours. -/
theorem lettersOf_eq_some_iff {q : List Nibble} {ls : List Char} :
    lettersOf q = some ls ↔ q.map letterOf = ls.map some := by
  induction q generalizing ls with
  | nil => cases ls <;> simp [lettersOf]
  | cons c q ih => cases ls <;> simp [lettersOf_cons, Option.bind_eq_some_iff, ih]

theorem getElem?_of_letters {q : List Nibble} {ls : List Char} {i : Nat} {c : Nibble}
    (places : q.map letterOf = ls.map some) (hc : q[i]? = some c) : ls[i]? = letterOf c := by
  have place : some (letterOf c) = ls[i]?.map some := by simpa [hc] using congrArg (·[i]?) places
  obtain ⟨l, hl, hlc⟩ := Option.map_eq_some_iff.mp place.symm
  exact hl.trans hlc

theorem lettersOf_eq_none_iff {q : List Nibble} : lettersOf q = none ↔ ∃ c ∈ q, 5 < c.toNat := by
  induction q with
  | nil => simp [lettersOf]
  | cons c q ih =>
    rw [List.exists_mem_cons_iff, ← ih, ← letterOf_eq_none_iff, lettersOf_cons]
    cases letterOf c <;> simp

theorem toNotation_off_length {q : List Nibble} (h : q.length ≠ 54) : toNotation q = .ok [] := if_pos h

theorem toNotation_of_letters {q : List Nibble} {ls : List Char} (h : q.length = 54) (hls : lettersOf q = some ls) :
    toNotation q = .ok ls := by
  simp [toNotation, nFacelets, h, hls]

theorem toNotation_refused {q : List Nibble} (h : q.length = 54) (hbad : lettersOf q = none) :
    toNotation q = .refused .badColour := by
  simp [toNotation, nFacelets, h, hbad]

theorem exec_toNotation (q : List Nibble) (s : State) :
    exec (.toNotation q) s = answer s ((toNotation q).map .letters) := rfl

/-- Settles O20, by the length and then by whether every nibble has a letter. -/
theorem lettersFollowTheTable : Obligations.LettersFollowTheTable := by
  refine fun s q => ⟨fun off => ?_, fun h colours => ?_, fun h bad => ?_⟩
  · rw [exec_toNotation, toNotation_off_length off]; rfl
  · have hsome : lettersOf q ≠ none := fun hnone =>
      let ⟨c, hc, above⟩ := lettersOf_eq_none_iff.mp hnone
      absurd (colours c hc) (Nat.not_le.mpr above)
    obtain ⟨ls, hls⟩ := Option.ne_none_iff_exists'.mp hsome
    have places : q.map letterOf = ls.map some := lettersOf_eq_some_iff.mp hls
    refine ⟨ls, ?_, ?_, fun i c => getElem?_of_letters places⟩
    · rw [exec_toNotation, toNotation_of_letters h hls]; rfl
    · simpa [h] using (congrArg List.length places).symm
  · rw [exec_toNotation, toNotation_refused h (lettersOf_eq_none_iff.mpr bad)]; rfl

/-! ## The two colour tables (R159) -/

/-- Face by face, the letter of the solved colour is the face's own. -/
theorem faceColor_letters : faceColor.map letterOf = ['U', 'R', 'F', 'D', 'L', 'B'].map some := rfl

theorem lettersOf_flatMap_replicate {q : List Nibble} {ls : List Char} (n : Nat) (h : q.map letterOf = ls.map some) :
    lettersOf (q.flatMap (List.replicate n)) = some (ls.flatMap (List.replicate n)) := by
  rw [lettersOf_eq_some_iff]
  calc (q.flatMap (List.replicate n)).map letterOf
      = (q.map letterOf).flatMap (List.replicate n) := by simp [List.map_flatMap, List.flatMap_map]
    _ = (ls.map some).flatMap (List.replicate n) := by rw [h]
    _ = (ls.flatMap (List.replicate n)).map some := by simp [List.map_flatMap, List.flatMap_map]

/-- Settles O21: the tables agree on the six faces, and a letter is repeated as its colour is. -/
theorem colourTablesAgreeOnTheFaces : Obligations.ColourTablesAgreeOnTheFaces := by
  refine ⟨fun f hf => ?_, toNotation_of_letters rfl (lettersOf_flatMap_replicate 9 faceColor_letters)⟩
  have hface : faceColor[f]? = some faceColor[f] := List.getElem?_eq_getElem hf
  exact ⟨faceColor[f], hface, (getElem?_of_letters faceColor_letters hface).symm⟩

/-! ## The move labels (R160) -/

theorem moveLabel_eq_none_iff {m : Byte} : moveLabel m = none ↔ 5 < m.toNat := List.getElem?_eq_none_iff

/-- A byte that is none of the six codes is above 5. -/
theorem lt_toNat_of_ne_codes {m : Byte} (h0 : m ≠ 0) (h1 : m ≠ 1) (h2 : m ≠ 2) (h3 : m ≠ 3) (h4 : m ≠ 4) (h5 : m ≠ 5) :
    5 < m.toNat := by
  bv_omega

theorem moveLabel_eq_ite (m : Byte) : moveLabel m =
    if m = 0 then some .U else if m = 1 then some .D else if m = 2 then some .L else if m = 3 then some .R
    else if m = 4 then some .F else if m = 5 then some .B else none := by
  split_ifs with h0 h1 h2 h3 h4 h5
  iterate 6 · subst m; rfl
  exact moveLabel_eq_none_iff.mpr (lt_toNat_of_ne_codes h0 h1 h2 h3 h4 h5)

theorem exec_moveLabel (m : Byte) (s : State) : exec (.moveLabel m) s = .next (s.setOut (.label (moveLabel m))) := rfl

/-- Settles O22, by the six codes and the bytes above them. -/
theorem moveCodesHaveSixLabels : Obligations.MoveCodesHaveSixLabels := fun s m => by
  rw [exec_moveLabel, moveLabel_eq_ite]; rfl

end Sys2Proof.Machine

/-! The Session Protocol (spec/45_session.md): what one accepted frame leaves, the three messages and `RX` by it, runs of
frames, and the commands and events of the ports. -/

namespace Sys2Proof.Machine

/-! ## What a frame brings, read from its layout (R79, R180, R182, R185) -/

/-- The facelet registers of R79, place by place, are the unpacked bytes 7 to 33. -/
theorem faceletsOf_eq_unpack {p : Bytes} (h : 34 ≤ p.length) : faceletsOf p = unpack ((p.drop 7).take 27) := by
  refine List.ext_getElem (by simp [faceletsOf, unpack_facelets_length h]) fun i hi hi' => ?_
  have h54 : i < 54 := by simpa [faceletsOf] using hi
  have hbyte : ((p.drop 7).take 27)[i / 2]? = some (p.getD (7 + i / 2) 0) := by
    rw [List.getElem?_take_of_lt (by omega), List.getElem?_drop, List.getD_eq_getElem?_getD,
      List.getElem?_eq_getElem (by omega), Option.getD_some]
  have hlow := unpack_getElem?_two_mul ((p.drop 7).take 27) (i / 2)
  have hhigh := unpack_getElem?_two_mul_add_one ((p.drop 7).take 27) (i / 2)
  rw [hbyte, Option.map_some] at hlow hhigh
  apply Option.some.inj
  rw [← List.getElem?_eq_getElem hi']
  by_cases heven : i % 2 = 0
  · rw [show 2 * (i / 2) = i by omega] at hlow
    simp [hlow, faceletsOf, heven, loNibble]
  · rw [show 2 * (i / 2) + 1 = i by omega] at hhigh
    simp [hhigh, faceletsOf, heven, hiNibble]

/-- The solved edge in the statements' terms (R154, R185). -/
theorem solvedEval_eq_edgeEvent (s : State) :
    solvedEval s = { s with
      evt := s.evt ++ edgeEvent s.wasSolved s.cube
      wasSolved := decide (s.cube = solvedImage) } := by
  rw [solvedEval_eq, isSolved_eq_decide]
  simp [solvedRises, edgeEvent, isSolved_iff]

/-- Writes (1) to (3) of R177 as one update. -/
theorem afterUpdate_eq {p : Bytes} (h : 34 ≤ p.length) (s : State) (batt? : Option Byte) :
    afterUpdate s p batt? = { s with
      cube := faceletsOf p
      battery := batt?.or s.battery
      evt := s.evt ++ [.stateUpdated (faceletsOf p) (batt?.or s.battery)] } := by
  rw [faceletsOf_eq_unpack h]
  cases batt? <;> rfl

/-- The acknowledgment queued for a plaintext is the ciphertext of R77's layout (R142). -/
theorem ackCipher_eq (cph : Cipher) (cfg : Config) {p : Bytes} (h : 7 ≤ p.length) :
    ackCipher cph cfg p = encrypt cph cfg.key (ackImage ((p.drop 2).take 5)) := by
  obtain ⟨a, b, head, rest, rfl⟩ := exists_ackHead h
  have hhead : (([a, b] ++ fiveBytes head ++ rest).drop 2).take 5 = fiveBytes head := rfl
  rw [ackCipher, hhead, ackBody_of_five rfl, crcBytes, builtBuffer_eq_frameImage, frameImage_ack]

theorem moveAcks_iff {cfg : Config} {p : Bytes} : moveAcks cfg p = true ↔ ∃ b ∈ p[91]?, ackPred cfg b = true := by
  unfold moveAcks
  cases p[91]? <;> simp

theorem batteryBy_of_syncEcho {p : Bytes} (hop : p[2]? = some 0x04) : batteryBy p = none := if_pos hop

theorem batteryBy_of_ne_syncEcho {p : Bytes} {b : Byte} (hop : p[2]? ≠ some 0x04) (hbyte : p[35]? = some b) :
    batteryBy p = some b := (if_neg hop).trans hbyte

theorem loggedBy_of_ne_move {p : Bytes} (hop : p[2]? ≠ some 0x03) : loggedBy p = none := if_neg hop

theorem loggedBy_of_move {p : Bytes} (hop : p[2]? = some 0x03) (h : 36 ≤ p.length) :
    loggedBy p = moveLabel p[34] := by
  rw [loggedBy, if_pos hop, List.getElem?_eq_getElem (by omega)]
  rfl

theorem acksFor_of_hello (cfg : Config) {p : Bytes} (hop : p[2]? = some 0x02) :
    acksFor cfg p = [encrypt Config.cipher cfg.key (ackImage ((p.drop 2).take 5))] := if_pos (.inl hop)

theorem acksFor_of_move (cfg : Config) {p : Bytes} (hop : p[2]? = some 0x03) :
    acksFor cfg p = if ∃ b ∈ p[91]?, ackPred cfg b = true then
      [encrypt Config.cipher cfg.key (ackImage ((p.drop 2).take 5))] else [] := by
  simp [acksFor, hop]

theorem acksFor_of_syncEcho (cfg : Config) {p : Bytes} (hop : p[2]? = some 0x04) : acksFor cfg p = [] := by
  simp [acksFor, hop]

/-! ## The state after one accepted frame (R177) -/

/-- The state after an accepted frame, in the statements' own terms; `handle_eq_afterFrame` ties it to the handlers. -/
def State.afterFrame (s : State) (p : Bytes) : State :=
  { s with
    cube := faceletsOf p
    battery := (batteryBy p).or s.battery
    moves := s.moves ++ (loggedBy p).toList
    evt := s.evt ++ [.stateUpdated (faceletsOf p) ((batteryBy p).or s.battery)] ++
      (loggedBy p).toList.map .moveRecognized ++ edgeEvent s.wasSolved (faceletsOf p)
    wasSolved := decide (faceletsOf p = solvedImage)
    txq := s.txq ++ acksFor s.cfg p
    fsm := .streaming }

@[simp] theorem State.afterFrame_cube (s : State) (p : Bytes) : (s.afterFrame p).cube = faceletsOf p := rfl
@[simp] theorem State.afterFrame_battery (s : State) (p : Bytes) :
    (s.afterFrame p).battery = (batteryBy p).or s.battery := rfl
@[simp] theorem State.afterFrame_moves (s : State) (p : Bytes) :
    (s.afterFrame p).moves = s.moves ++ (loggedBy p).toList := rfl
@[simp] theorem State.afterFrame_wasSolved (s : State) (p : Bytes) :
    (s.afterFrame p).wasSolved = decide (faceletsOf p = solvedImage) := rfl
@[simp] theorem State.afterFrame_txq (s : State) (p : Bytes) :
    (s.afterFrame p).txq = s.txq ++ acksFor s.cfg p := rfl
@[simp] theorem State.afterFrame_cfg (s : State) (p : Bytes) : (s.afterFrame p).cfg = s.cfg := rfl

theorem State.afterFrame_live (s : State) (p : Bytes) : (s.afterFrame p).fsm ≠ .disconnected := nofun

/-- The handler of a frame's row leaves the state after that frame: the last write of each register is the frame's, and the
events and the acknowledgment come in the order of R177. -/
theorem handle_eq_afterFrame {k : MsgKind} {p : Bytes} (hop : p[2]? = some (opcodeOf k)) (hlen : minLen k ≤ p.length)
    (s : State) : handle Config.cipher k p s = .ok (s.afterFrame p) := by
  have h34 : 34 ≤ p.length := (minLen_ge k).trans hlen
  have hack := ackCipher_eq Config.cipher s.cfg (p := p) (by omega)
  cases k with
  | hello =>
    have h36 : 36 ≤ p.length := hlen
    have hop : p[2]? = some 0x02 := hop
    have hbatt : batteryBy p = some p[35] := batteryBy_of_ne_syncEcho (by simp [hop]) (List.getElem?_eq_getElem _)
    have hlabel : loggedBy p = none := loggedBy_of_ne_move (by simp [hop])
    rw [handle, hello_inside _ h36, hack, afterUpdate_eq h34, solvedEval_eq_edgeEvent, State.afterFrame, hbatt, hlabel,
      acksFor_of_hello s.cfg hop]
    simp [State.send, State.setFsm]
  | move =>
    have h36 : 36 ≤ p.length := hlen
    have hop : p[2]? = some 0x03 := hop
    have hbatt : batteryBy p = some p[35] := batteryBy_of_ne_syncEcho (by simp [hop]) (List.getElem?_eq_getElem _)
    rw [handle, move_inside _ h36, hack, afterUpdate_eq h34, recordMove_eq, solvedEval_eq_edgeEvent, State.afterFrame,
      hbatt, loggedBy_of_move hop h36, acksFor_of_move s.cfg hop]
    by_cases hacks : moveAcks s.cfg p = true
    · rw [if_pos hacks, if_pos (moveAcks_iff.mp hacks)]; rfl
    · rw [if_neg hacks, if_neg (mt moveAcks_iff.mpr hacks), List.append_nil]; rfl
  | syncEcho =>
    have hop : p[2]? = some 0x04 := hop
    have hlabel : loggedBy p = none := loggedBy_of_ne_move (by simp [hop])
    rw [handle, syncEcho_inside h34, afterUpdate_eq h34, solvedEval_eq_edgeEvent, State.afterFrame,
      batteryBy_of_syncEcho hop, hlabel, acksFor_of_syncEcho s.cfg hop]
    simp [State.setFsm]

/-! ## The checks as conditions on the plaintext (R130, R171) -/

/-- The checks before the opcode pass exactly the plaintexts with an accepted trailer (R128, R129). -/
theorem parsePlain_eq_ok_iff (cfg : Config) {p : Bytes} {op : Byte} (h0 : p[0]? = some marker) (h2 : p[2]? = some op) :
    parsePlain cfg p = .ok (p, op) ↔ trailerAccepted cfg p = true := by
  obtain ⟨h3, -⟩ := List.getElem?_eq_some_iff.mp h2
  have hlength : trailerGood p = true → lengthByteGood p = true := fun h =>
    ((trailerGood_iff (List.getElem?_eq_getElem (by omega))).mp h).1
  rw [parsePlain_eq cfg h0 h2, if_neg (not_not_intro rfl), trailerAccepted]
  cases cfg.verifyRxCrc with
  | false => simp
  | true =>
    cases htrailer : trailerGood p with
    | false => cases lengthByteGood p <;> simp
    | true => simp [hlength htrailer]

/-- The dispatcher picks a handler for exactly the plaintexts of its row with an accepted trailer. -/
theorem classify_eq_ok_iff {cfg : Config} {p : Bytes} {k : MsgKind} :
    classify cfg p = .ok k ↔ matchesRow (opcodeOf k) (minLen k) p = true ∧ trailerAccepted cfg p = true := by
  constructor
  · intro h
    have hrow := matchesRow_of_classify h
    obtain ⟨h0, h2, _⟩ := matchesRow_iff.mp hrow
    obtain ⟨⟨_, _⟩, hparse, _⟩ := Res.bind_eq_ok.mp h
    rcases parsePlain_ok_or_raised cfg p with ⟨op, _, h2', _, hok⟩ | ⟨e, hraised⟩
    · cases h2.symm.trans h2'
      exact ⟨hrow, (parsePlain_eq_ok_iff cfg h0 h2).mp hok⟩
    · cases hraised.symm.trans hparse
  · rintro ⟨hrow, htrailer⟩
    obtain ⟨h0, h2, hlen⟩ := matchesRow_iff.mp hrow
    rw [classify, (parsePlain_eq_ok_iff cfg h0 h2).mpr htrailer, Res.bind_ok, selectHandler, kindOf_eq_some.mpr rfl]
    exact if_neg (Nat.not_lt.mpr hlen)

/-- An accepted frame is one the dispatcher has a handler for. -/
theorem acceptedFrame_iff {cfg : Config} {p : Bytes} :
    acceptedFrame cfg p = true ↔ ∃ k, classify cfg p = .ok k := by
  simp only [classify_eq_ok_iff, exists_and_right, acceptedFrame, Bool.and_eq_true, Bool.or_eq_true]
  refine and_congr_left' ⟨?_, ?_⟩
  · rintro ((h | h) | h)
    · exact ⟨.hello, h⟩
    · exact ⟨.move, h⟩
    · exact ⟨.syncEcho, h⟩
  · rintro ⟨_ | _ | _, h⟩
    · exact .inl (.inl h)
    · exact .inl (.inr h)
    · exact .inr h

/-! ## `DISPATCH` and the three messages -/

theorem exec_dispatch (p : Bytes) (s : State) :
    exec (.dispatch p) s = recover s (dispatch Config.cipher p s) := rfl

/-- A disconnected block discards every plaintext (R174). -/
theorem exec_dispatch_off {s : State} (off : s.fsm = .disconnected) (p : Bytes) : exec (.dispatch p) s = .next s := by
  rw [exec_dispatch, dispatch, if_pos off, recover_ok]

/-- A plaintext that is no accepted frame is dropped (R206). -/
theorem exec_dispatch_dropped {s : State} {p : Bytes} (h : acceptedFrame s.cfg p = false) :
    exec (.dispatch p) s = .next s := by
  rw [exec_dispatch]
  rcases dispatch_cases Config.cipher p s with ⟨_, hd⟩ | ⟨_, k, hc, _, _⟩ | ⟨_, e, _, hd⟩
  · rw [hd, recover_ok]
  · rw [acceptedFrame_iff.mpr ⟨k, hc⟩] at h
    cases h
  · rw [hd, recover_raised]

/-- A live session acts on an accepted frame (R176). -/
theorem exec_dispatch_accepted {s : State} {p : Bytes} (live : s.fsm ≠ .disconnected)
    (h : acceptedFrame s.cfg p = true) : exec (.dispatch p) s = .next (s.afterFrame p) := by
  obtain ⟨k, hc⟩ := acceptedFrame_iff.mp h
  obtain ⟨_, hop, hlen⟩ := matchesRow_iff.mp (matchesRow_of_classify hc)
  rw [exec_dispatch, dispatch, if_neg live, hc, Res.bind_ok, handle_eq_afterFrame hop hlen, recover_ok]

/-- A disconnected block discards every message given as an operation (log 13). -/
theorem exec_messageInstr_off {s : State} (off : s.fsm = .disconnected) (k : MsgKind) (p : Bytes) :
    exec (messageInstr k p) s = .next s := by
  rw [exec_messageInstr, message_off off, recover_ok]

/-- A live session acts on an accepted frame given as the message it is, and `DISPATCH` of it is the same step. -/
theorem exec_messageInstr_accepted {s : State} {k : MsgKind} {p : Bytes} (live : s.fsm ≠ .disconnected)
    (hrow : matchesRow (opcodeOf k) (minLen k) p = true) (htrailer : trailerAccepted s.cfg p = true) :
    exec (messageInstr k p) s = .next (s.afterFrame p) ∧ exec (.dispatch p) s = exec (messageInstr k p) s := by
  have hsame : exec (.dispatch p) s = exec (messageInstr k p) s := by
    rw [exec_dispatch, exec_messageInstr, dispatch_eq_message _ hrow]
  have haccepted : acceptedFrame s.cfg p = true :=
    acceptedFrame_iff.mpr ⟨k, classify_eq_ok_iff.mpr ⟨hrow, htrailer⟩⟩
  exact ⟨hsame.symm.trans (exec_dispatch_accepted live haccepted), hsame⟩

/-- Settles O23: a `HELLO` brings a battery byte and an acknowledgment, and no label. -/
theorem helloWritesReportsAndAcknowledges : Obligations.HelloWritesReportsAndAcknowledges := by
  intro s p batt live hrow htrailer hbyte
  obtain ⟨_, hop, _⟩ := matchesRow_iff.mp hrow
  have hbatt : batteryBy p = some batt := batteryBy_of_ne_syncEcho (by simp [hop]) hbyte
  have hlabel : loggedBy p = none := loggedBy_of_ne_move (by simp [hop])
  obtain ⟨hexec, hsame⟩ := exec_messageInstr_accepted (k := .hello) live hrow htrailer
  refine ⟨hexec.trans ?_, hsame⟩
  simp [State.afterFrame, hbatt, hlabel, acksFor_of_hello s.cfg hop]

/-- Settles O24: a `MOVE` brings a battery byte, the label of its code, and an acknowledgment if its flag says so. -/
theorem moveWritesLogsAndMayAcknowledge : Obligations.MoveWritesLogsAndMayAcknowledge := by
  intro s p batt live hrow htrailer hbyte
  obtain ⟨_, hop, _⟩ := matchesRow_iff.mp hrow
  have hbatt : batteryBy p = some batt := batteryBy_of_ne_syncEcho (by simp [hop]) hbyte
  obtain ⟨hexec, hsame⟩ := exec_messageInstr_accepted (k := .move) live hrow htrailer
  refine ⟨hexec.trans ?_, hsame⟩
  rw [State.afterFrame, hbatt, Option.some_or, acksFor_of_move s.cfg hop]

/-- Settles O25: a `SYNC_ECHO` brings nothing but its facelets. -/
theorem syncEchoWritesTheCubeOnly : Obligations.SyncEchoWritesTheCubeOnly := by
  intro s p live hrow htrailer
  obtain ⟨_, hop, _⟩ := matchesRow_iff.mp hrow
  have hlabel : loggedBy p = none := loggedBy_of_ne_move (by simp [hop])
  obtain ⟨hexec, hsame⟩ := exec_messageInstr_accepted (k := .syncEcho) live hrow htrailer
  refine ⟨hexec.trans ?_, hsame⟩
  simp [State.afterFrame, batteryBy_of_syncEcho hop, hlabel, acksFor_of_syncEcho s.cfg hop]

/-- Settles O26. -/
theorem disconnectedDiscardsEveryMessage : Obligations.DisconnectedDiscardsEveryMessage := fun _ p off =>
  ⟨exec_dispatch_off off p, exec_messageInstr_off off .hello p, exec_messageInstr_off off .move p,
    exec_messageInstr_off off .syncEcho p⟩

/-! ## `RX` (R175) -/

/-- `RX` with a buffer queued deciphers and dispatches it in the state without it. -/
theorem exec_rx_of_queue {s : State} {c : Bytes} {rest : List Bytes} (queue : s.rxq = c :: rest) :
    exec .rx s = recover (s.setRxq rest) (receive Config.cipher c (s.setRxq rest)) := by
  rw [exec, execRx, rx, queue]

theorem exec_rx_ragged {s : State} {c : Bytes} {rest : List Bytes} (queue : s.rxq = c :: rest)
    (ragged : c.length % 16 ≠ 0) : exec .rx s = .next (s.setRxq rest) := by
  rw [exec_rx_of_queue queue, receive, decrypt_ragged ragged, Res.bind_raised, recover_raised]

theorem exec_rx_encrypt {s : State} {p : Bytes} {rest : List Bytes} (whole : p.length % 16 = 0)
    (queue : s.rxq = encrypt Config.cipher s.cfg.key p :: rest) :
    exec .rx s = exec (.dispatch p) (s.setRxq rest) := by
  rw [exec_rx_of_queue queue, receive, State.setRxq_cfg, decrypt_encrypt_whole whole, Res.bind_ok, exec_dispatch]

/-- Settles O32, by the head's length. -/
theorem rxTakesTheOldestBuffer : Obligations.RxTakesTheOldestBuffer := fun _ _ =>
  ⟨fun _ => exec_rx_ragged, fun _ => exec_rx_encrypt⟩

/-- A disconnected block discards whatever buffer is queued (R174). -/
theorem exec_rx_off {s : State} {c : Bytes} {rest : List Bytes} (queue : s.rxq = c :: rest)
    (off : s.fsm = .disconnected) : exec .rx s = .next (s.setRxq rest) := by
  by_cases whole : c.length % 16 = 0
  · obtain ⟨p, hlen, rfl⟩ := exists_plaintext Config.cipher s.cfg.key whole
    exact (exec_rx_encrypt (hlen ▸ whole) queue).trans (exec_dispatch_off (s := s.setRxq rest) off p)
  · exact exec_rx_ragged queue whole

theorem exec_rx_dropped {s : State} {p : Bytes} {rest : List Bytes} (whole : p.length % 16 = 0)
    (queue : s.rxq = encrypt Config.cipher s.cfg.key p :: rest) (h : acceptedFrame s.cfg p = false) :
    exec .rx s = .next (s.setRxq rest) :=
  (exec_rx_encrypt whole queue).trans (exec_dispatch_dropped h)

theorem exec_rx_accepted {s : State} {p : Bytes} {rest : List Bytes} (whole : p.length % 16 = 0)
    (queue : s.rxq = encrypt Config.cipher s.cfg.key p :: rest) (live : s.fsm ≠ .disconnected)
    (h : acceptedFrame s.cfg p = true) : exec .rx s = .next ((s.setRxq rest).afterFrame p) :=
  (exec_rx_encrypt whole queue).trans (exec_dispatch_accepted live h)

/-- Everything `RX` can answer with a buffer queued: the head is gone and nothing else changed, or the head is the
ciphertext of an accepted frame and `RX` is `DISPATCH` of it (R175, R206). -/
theorem exec_rx_answers {s : State} {c : Bytes} {rest : List Bytes} (queue : s.rxq = c :: rest) :
    ∃ t, exec .rx s = .next t ∧ (t = s.setRxq rest ∨
      ∃ p, c = encrypt Config.cipher s.cfg.key p ∧ p.length % 16 = 0 ∧ s.fsm ≠ .disconnected ∧
        acceptedFrame s.cfg p = true ∧ exec (.dispatch p) (s.setRxq rest) = .next t) := by
  by_cases whole : c.length % 16 = 0
  · obtain ⟨p, hlen, rfl⟩ := exists_plaintext Config.cipher s.cfg.key whole
    have hp : p.length % 16 = 0 := hlen ▸ whole
    by_cases off : s.fsm = .disconnected
    · exact ⟨_, exec_rx_off queue off, .inl rfl⟩
    · cases h : acceptedFrame s.cfg p with
      | false => exact ⟨_, exec_rx_dropped hp queue h, .inl rfl⟩
      | true => exact ⟨_, exec_rx_accepted hp queue off h, .inr ⟨p, rfl, hp, off, h, exec_dispatch_accepted off h⟩⟩
  · exact ⟨_, exec_rx_ragged queue whole, .inl rfl⟩

/-- Settles O33: the head is ragged, or the ciphertext of a plaintext that is discarded, dropped or accepted. -/
theorem rxCompletesAndIsPrecise : Obligations.RxCompletesAndIsPrecise := by
  refine fun s c rest queue => ⟨exec_rx_answers queue, ?_, fun p hc whole => exec_rx_accepted whole (hc ▸ queue)⟩
  rintro (ragged | off | ⟨p, rfl, whole, h⟩)
  · exact exec_rx_ragged queue ragged
  · exact exec_rx_off queue off
  · exact exec_rx_dropped whole queue h

/-! ## Runs of accepted frames -/

/-- A run of accepted frames completes, one after the other (R65). -/
theorem runAll_dispatch_accepted {ps : List Bytes} {s : State} (live : s.fsm ≠ .disconnected)
    (h : ∀ p ∈ ps, acceptedFrame s.cfg p = true) :
    runAll (ps.map .dispatch) s = .next (ps.foldl State.afterFrame s) := by
  induction ps generalizing s with
  | nil => rfl
  | cons p ps ih =>
    obtain ⟨hp, hps⟩ := List.forall_mem_cons.mp h
    rw [List.map_cons, runAll_cons (exec_dispatch_accepted live hp), ih (s.afterFrame_live p) hps, List.foldl_cons]

theorem edgeCount_append (es fs : List Event) : edgeCount (es ++ fs) = edgeCount es + edgeCount fs := by
  induction es with
  | nil => exact (Nat.zero_add _).symm
  | cons e es ih => cases e <;> simp [edgeCount, ih, Nat.add_right_comm]

theorem edgeCount_map_moveRecognized (ls : List MoveLabel) : edgeCount (ls.map .moveRecognized) = 0 := by
  induction ls with
  | nil => rfl
  | cons l ls ih => exact ih

theorem edgeCount_edgeEvent (wasSolved : Bool) (now : List Nibble) :
    edgeCount (edgeEvent wasSolved now) = if decide (now = solvedImage) && !wasSolved then 1 else 0 := by
  rw [edgeEvent, apply_ite edgeCount]
  simp [edgeCount]

/-- One frame adds one `SOLVED_EDGE` event or none: its snapshot and its label are no edges (R185). -/
theorem edgeCount_afterFrame (s : State) (p : Bytes) :
    edgeCount (s.afterFrame p).evt =
      edgeCount s.evt + if decide (faceletsOf p = solvedImage) && !s.wasSolved then 1 else 0 := by
  simp only [State.afterFrame, edgeCount_append, edgeCount_map_moveRecognized, edgeCount_edgeEvent]
  rfl

theorem edgeCount_foldl_afterFrame (ps : List Bytes) (s : State) :
    edgeCount (ps.foldl State.afterFrame s).evt =
      edgeCount s.evt + rises s.wasSolved (ps.map fun p => decide (faceletsOf p = solvedImage)) := by
  induction ps generalizing s with
  | nil => rfl
  | cons p ps ih =>
    rw [List.foldl_cons, ih, edgeCount_afterFrame, State.afterFrame_wasSolved, List.map_cons, rises, Nat.add_assoc]

/-- A field that every frame sets ends as the last frame has it. -/
theorem foldl_afterFrame_of_set {α : Type} {field : State → α} {f : Bytes → α}
    (hset : ∀ (s : State) (p : Bytes), field (s.afterFrame p) = f p) (ps : List Bytes) (s : State) :
    field (ps.foldl State.afterFrame s) = ((ps.map f).getLast?).getD (field s) := by
  induction ps generalizing s with
  | nil => rfl
  | cons p ps ih => rw [List.foldl_cons, ih, hset, List.map_cons, List.getLast?_cons, Option.getD_some]

theorem moves_foldl_afterFrame (ps : List Bytes) (s : State) :
    (ps.foldl State.afterFrame s).moves = s.moves ++ ps.filterMap loggedBy := by
  induction ps generalizing s with
  | nil => exact (List.append_nil _).symm
  | cons p ps ih => cases hl : loggedBy p <;> simp [ih, hl]

theorem battery_foldl_afterFrame (ps : List Bytes) (s : State) :
    (ps.foldl State.afterFrame s).battery = ((ps.filterMap batteryBy).getLast?).or s.battery := by
  induction ps generalizing s with
  | nil => rfl
  | cons p ps ih => cases hb : batteryBy p <;> simp [ih, hb, List.getLast?_cons]

theorem txq_foldl_afterFrame (ps : List Bytes) (s : State) :
    (ps.foldl State.afterFrame s).txq = s.txq ++ ps.flatMap (acksFor s.cfg) := by
  induction ps generalizing s with
  | nil => exact (List.append_nil _).symm
  | cons p ps ih => simp [ih]

/-- Settles O47: frame by frame, an edge is a rise after the flag the frame before it left. -/
theorem solvedEdgesCountTheRises : Obligations.SolvedEdgesCountTheRises := fun s ps live h =>
  ⟨_, runAll_dispatch_accepted live h, edgeCount_foldl_afterFrame ps s,
    foldl_afterFrame_of_set State.afterFrame_wasSolved ps s⟩

/-- Settles O48, field by field. -/
theorem runOfFramesGathersItsFields : Obligations.RunOfFramesGathersItsFields := fun s ps live h =>
  ⟨_, runAll_dispatch_accepted live h, moves_foldl_afterFrame ps s, battery_foldl_afterFrame ps s,
    foldl_afterFrame_of_set State.afterFrame_cube ps s, txq_foldl_afterFrame ps s⟩

/-! ## The commands and events of the ports -/

theorem exec_connect_off {s : State} (off : s.fsm = .disconnected) (a : Addr) :
    exec (.connect a) s =
      .next ((s.newSession.send (encrypt Config.cipher s.cfg.key (identImage a))).setFsm .handshaking) := by
  rw [exec, execConnect, connect, if_pos off, identFrame_image, Res.map_ok, recover_ok]

theorem exec_connect_live {s : State} (live : s.fsm ≠ .disconnected) (a : Addr) :
    exec (.connect a) s = .refused .alreadyConnected := by
  rw [exec, execConnect, connect, if_neg live, recover_refused]

/-- Settles O30. -/
theorem connectStartsAFreshSession : Obligations.ConnectStartsAFreshSession := fun _ a =>
  ⟨fun off => exec_connect_off off a, fun live => exec_connect_live live a⟩

/-- Settles O31. -/
theorem deliverQueuesOrDiscards : Obligations.DeliverQueuesOrDiscards := fun _ c =>
  ⟨fun live => exec_deliver_live live c, fun off => by rw [exec, execDeliver, if_pos off]⟩

/-- Settles O34. -/
theorem txDoneRemovesTheHead : Obligations.TxDoneRemovesTheHead := fun _ _ _ queue => by
  rw [exec, execTxDone, queue]
  rfl

/-- Settles O36: `HAS_SYNC` is tested first, then the session. -/
theorem requestSyncQueuesTheSyncFrame : Obligations.RequestSyncQueuesTheSyncFrame := by
  refine fun s => ⟨fun hsync live => ?_, fun hsync off => ?_, fun hsync => ?_⟩
  · rw [exec, execRequestSync, requestSync, if_neg (by simp [hsync]), if_neg live, syncFrame_image _ hsync, Res.map_ok,
      recover_ok]
    rfl
  · rw [exec, execRequestSync, requestSync, if_neg (by simp [hsync]), if_pos off, recover_refused]
  · rw [exec, execRequestSync, requestSync, if_pos hsync, recover_refused]

/-- Settles O37. -/
theorem sessionEndKeepsTheRegisters : Obligations.SessionEndKeepsTheRegisters := by
  refine fun s => ⟨fun live => ⟨?_, ?_⟩, fun off => ⟨?_, ?_⟩⟩
  · rw [exec, execTeardown, if_neg live]; rfl
  · rw [exec, execTransportError, if_neg live]; rfl
  · rw [exec, execTeardown, if_pos off]
  · rw [exec, execTransportError, if_pos off]

/-! ## The transitions (R171) -/

/-- A plaintext leaves `fsm`, or takes a live session to `Streaming`. -/
theorem Processed.fsm {s t : State} (h : Processed s t) :
    t.fsm = s.fsm ∨ s.fsm ≠ .disconnected ∧ t.fsm = .streaming := by
  cases h with
  | dropped => exact .inl rfl
  | accepted live a => exact .inr ⟨live, rfl⟩

theorem fsmMay_of_processed {i : Instr} {before after : Fsm} (block : issuer i = .block)
    (h : after = before ∨ before ≠ .disconnected ∧ after = .streaming) : fsmMay i before after := by
  rcases h with same | ⟨live, streaming⟩
  · exact .inl same
  · exact .inr (.inr (.inl ⟨live, streaming, block⟩))

/-- Settles O38, by the effects of an operation; that `CONNECT` starts from `Disconnected` is its refusal elsewhere. -/
theorem fsmMovesOnlyByTheTable : Obligations.FsmMovesOnlyByTheTable := by
  intro i s t h
  cases exec_effect h with
  | processed block hp => exact fsmMay_of_processed block hp.fsm
  | received queue hp => exact fsmMay_of_processed rfl hp.fsm
  | connected addr length =>
    have off : s.fsm = .disconnected := not_not.mp fun live => by
      rw [exec_connect_live live] at h
      cases h
    exact .inr (.inl ⟨off, rfl, addr, rfl⟩)
  | tornDown live => exact .inr (.inr (.inr ⟨live, rfl, .inl rfl⟩))
  | failed live => exact .inr (.inr (.inr ⟨live, rfl, .inr rfl⟩))
  | answered | requested | transmitted | delivered | ignored => exact .inl rfl

end Sys2Proof.Machine

/-! The exceptions (spec/60_exceptions.md): a frame that fails a check of the dispatcher raises before the first write, so
that its recovery leaves the state as it was (R206). -/

namespace Sys2Proof.Machine

/-! ## Frames that are not accepted (R130, R184, R206) -/

/-- The dispatcher's checks raise on a plaintext that is no accepted frame: they raise wherever they pick no handler. -/
theorem classify_raised_of_not_accepted {cfg : Config} {p : Bytes} (h : acceptedFrame cfg p = false) :
    ∃ e, classify cfg p = .raised e := by
  rcases classify_ok_or_raised cfg p with ⟨k, _, _, _, _, _, _, hc⟩ | hraised
  · rw [acceptedFrame_iff.mpr ⟨k, hc⟩] at h
    cases h
  · exact hraised

/-- A message given as an operation drops a plaintext that is no accepted frame, whichever its opcode: the checks come before
the test for this message (log 13). -/
theorem exec_messageInstr_dropped {s : State} {p : Bytes} (h : acceptedFrame s.cfg p = false) (k : MsgKind) :
    exec (messageInstr k p) s = .next s := by
  by_cases off : s.fsm = .disconnected
  · exact exec_messageInstr_off off k p
  · obtain ⟨e, hraised⟩ := classify_raised_of_not_accepted h
    rw [exec_messageInstr, message_live off, hraised, Res.bind_raised, recover_raised]

/-- Settles O27: the dispatcher and the three messages run the same checks, and none of them writes before its checks pass. -/
theorem droppedFrameChangesNothing : Obligations.DroppedFrameChangesNothing := fun _ _ h =>
  ⟨exec_dispatch_dropped h, exec_messageInstr_dropped h .hello, exec_messageInstr_dropped h .move,
    exec_messageInstr_dropped h .syncEcho⟩

end Sys2Proof.Machine

/-! Operations given where the spec does not enable them: what the model then refuses is its own choice (log 9, log 13). -/

namespace Sys2Proof.Machine

/-! ## A message of another row (log 13) -/

/-- A live session refuses an accepted frame given as a message whose row it does not match: the handler the dispatcher would
pick is then another one. -/
theorem exec_messageInstr_of_another_row {s : State} {p : Bytes} {k : MsgKind} (live : s.fsm ≠ .disconnected)
    (haccepted : acceptedFrame s.cfg p = true) (hrow : matchesRow (opcodeOf k) (minLen k) p = false) :
    exec (messageInstr k p) s = .refused .notThisMessage := by
  obtain ⟨k', hc⟩ := acceptedFrame_iff.mp haccepted
  have hne : k' ≠ k := by
    rintro rfl
    exact Bool.eq_false_iff.mp hrow (matchesRow_of_classify hc)
  rw [exec_messageInstr, message_live live, hc, Res.bind_ok, if_neg hne, recover_refused]

/-- Settles O57: the three messages share the dispatcher's guards and the test for their own row. -/
theorem messageOfAnotherRowIsRefused : Obligations.MessageOfAnotherRowIsRefused := fun _ _ live haccepted =>
  ⟨exec_messageInstr_of_another_row (k := .hello) live haccepted,
    exec_messageInstr_of_another_row (k := .move) live haccepted,
    exec_messageInstr_of_another_row (k := .syncEcho) live haccepted⟩

/-! ## An empty queue (log 9) -/

theorem exec_rx_of_empty {s : State} (hempty : s.rxq = []) : exec .rx s = .refused .rxqEmpty := by
  rw [exec, execRx, rx, hempty]

theorem exec_txDone_of_empty {s : State} (hempty : s.txq = []) : exec .txDone s = .refused .txqEmpty := by
  rw [exec, execTxDone, hempty]

/-- Settles O35: the invariant keeps both queues empty in `Disconnected` (R174, R188). -/
theorem stepsThatAreNotEnabledAreRefused : Obligations.StepsThatAreNotEnabledAreRefused := fun _ =>
  ⟨exec_rx_of_empty, exec_txDone_of_empty, fun hinv off =>
    have ⟨hrxq, htxq⟩ := hinv.disconnectedQueues off
    ⟨exec_rx_of_empty hrxq, exec_txDone_of_empty htxq⟩⟩

end Sys2Proof.Machine
